-- ==== Sys2Proof/Word.lean ====
section
/-! DEFINITION. The word types of the block: bytes, I/O addresses, 24-bit addresses, transaction words,
and positions in caller-owned memory. -/

namespace Sys2Proof

/-- A `u8` (00_scope.md R8): what every port access moves (20_memory.md R47). -/
abbrev Byte := BitVec 8

/-- A 16-bit I/O address (20_memory.md R45). -/
abbrev Addr := BitVec 16

/-- A `u24`: the memory-range registers and the program counter of the privilege check
(10_state.md R25 to R27; 92_eei_decisions.md D20). -/
abbrev Word24 := BitVec 24

/-- A 32-bit transaction word or USB register (30_encoding.md R63, 42_usb.md R136). -/
abbrev Word32 := BitVec 32

/-- A range selector, the top four bits of an I/O address (30_encoding.md R61). -/
abbrev RangeNo := BitVec 4

/-- The twelve low bits of an I/O address, and the offset a device observes (30_encoding.md R61, R62). -/
abbrev Offset := BitVec 12

/-- A position in caller-owned memory (10_state.md R35). The spec calls it abstract, so a position is a
plain number of bytes, and `null` is the empty view. -/
inductive HostPtr where
  /-- no view -/
  | null
  /-- the position `p` of caller-owned memory -/
  | pos (p : Nat)
  deriving DecidableEq, Repr, Inhabited

end Sys2Proof
end

