-- ==== Sys2Proof/Config.lean ====
section
/-! DEFINITION. The implementation parameters of 00_scope.md R7 and the free values of the spec.
A parameter the spec fixes has its value; an OPEN one and a free value is an opaque constant, so that no
proof can rest on what it is. -/

namespace Sys2Proof.Config

/-- The range the ControlDevice is bound to (00_scope.md R7, 92_eei_decisions.md D2). PRESUMED log 18. -/
def ctrlRange : RangeNo := 0x0#4

/-- The range the USBDeviceController is bound to (00_scope.md R7, 92_eei_decisions.md D2). PRESUMED log 18. -/
def usbRange : RangeNo := 0x3#4

/-- OPEN (00_scope.md R7, 92_eei_decisions.md D3): the mirror masks of the ranges other than 0 and 3. Twelve
bits wide, so each is at most 0xFFF (92_eei_decisions.md D4). DESIGN CHOICE log 7. -/
opaque mirrorOpen : RangeNo → Offset

/-- OPEN (00_scope.md R7, 92_eei_decisions.md D7): the constant the device-type register returns. DESIGN CHOICE log 8. -/
opaque deviceType : Byte

/-- `PROT_RESET`, the reset value of both protection bounds (00_scope.md R7, 92_eei_decisions.md D8). PRESUMED log 18. -/
def protReset : Word24 := 0xD1887C#24

/-- `USB_MIRROR_RESET` (00_scope.md R7, 92_eei_decisions.md D9). -/
def usbMirrorReset : Byte := 0x02#8

/-- `MISC_FIXED_BIT` (00_scope.md R7, 92_eei_decisions.md D10). -/
def miscFixedBit : Byte := 0x08#8

/-- `RESET_TRIGGER_MASK` (00_scope.md R7, 90_conflicts.md C1). -/
def resetTriggerMask : Byte := 0x10#8

/-- `SHUTDOWN_CODE` (00_scope.md R7). -/
def shutdownCode : Byte := 0xD4#8

/-- `SHUTDOWN_STATUS_BIT` (00_scope.md R7, 92_eei_decisions.md D14). -/
def shutdownStatusBit : Byte := 0x01#8

/-- `OFF_SURVIVES_RESET` (00_scope.md R7, 92_eei_decisions.md D32). DEDUCED log 20. -/
def offSurvivesReset : Bool := true

/-- `CLOCK_RATE`, in whole hertz (00_scope.md R7, 10_state.md R30, 90_conflicts.md C5). DESIGN CHOICE log 10. -/
def clockRate : BitVec 2 → Nat
  | 0#2 => 6000000
  | 1#2 => 12000000
  | 2#2 => 24000000
  | 3#2 => 48000000

/-- `EP0_MPS`, the most bytes one IN chunk holds (00_scope.md R7, 92_eei_decisions.md D28). PRESUMED log 18. -/
def ep0Mps : Nat := 64

/-- `USB_SUMMARY_BIT` (00_scope.md R7, 92_eei_decisions.md D26). -/
def usbSummaryBit : Byte := 0x01#8

/-- What a USB offset without a named register does on a read (42_usb.md R174). -/
inductive Unmodelled where
  /-- it returns the stored byte -/
  | store
  /-- it returns any byte -/
  | draw
  deriving DecidableEq, Repr

/-- `USB_UNMODELLED`, `store` for this hardware (00_scope.md R7, 92_eei_decisions.md D22). DEDUCED log 20. -/
def usbUnmodelled : Unmodelled := .store

/-- OPEN (00_scope.md R7, 92_eei_decisions.md D19): the reason code of a read watch. DESIGN CHOICE log 9. -/
opaque dbgReasonPortRead : Nat

/-- OPEN (00_scope.md R7, 92_eei_decisions.md D19): the reason code of a write watch. DESIGN CHOICE log 9. -/
opaque dbgReasonPortWrite : Nat

/-- OPEN (00_scope.md R7, 92_eei_decisions.md D19): the reason code of open-on-reset. DESIGN CHOICE log 9. -/
opaque dbgReasonReset : Nat

/-- The free value `draw()` of 00_scope.md R10: the byte of draw number `n`. DESIGN CHOICE log 4. -/
opaque freeByte (n : Nat) : Byte

/-- The free value behind `HostMem` (42_usb.md R184): byte `i` of the bytes that stand at position `p` of
caller-owned memory at the moment of draw number `n`. DESIGN CHOICE log 5. -/
opaque hostByte (n : Nat) (p : HostPtr) (i : Nat) : Byte

/-- The free value `null + n` (42_usb.md R185 advances `pendingBuffer`, and no rule says what advancing the
empty view gives). DESIGN CHOICE log 6. -/
opaque nullPlus (n : Nat) : HostPtr

end Sys2Proof.Config
end

