-- ==== Sys2Proof/Machine/Memory.lean ====
section
/-! DEFINITION. The byte arrays of the block, `ctrl.ports` and `usb.regs` (10_state.md R20, R31), each a list of
cells in one canonical form: addresses strictly rising, none at or above the array's size, no listed byte 0x00. -/

namespace Sys2Proof.Machine

/-- A byte array, by its bytes that are not 0x00. -/
abbrev Memory := List Host.Cell

/-- What an unlisted address reads as: 0x00, the value every byte has after cold init but for the one preset
(10_state.md R41). DEDUCED log 17. -/
def Memory.unlisted : Byte := 0x00#8

/-- The byte at address `a`. -/
def Memory.read : Memory → Nat → Byte
  | [], _ => Memory.unlisted
  | (b, w) :: m, a => if a = b then w else Memory.read m a

/-- The array with byte `v` at address `a`; writing 0x00 removes the entry, so that equal arrays are equal lists. -/
def Memory.write : Memory → Nat → Byte → Memory
  | [], a, v => if v = Memory.unlisted then [] else [(a, v)]
  | (b, w) :: m, a, v =>
    if a = b then (if v = Memory.unlisted then m else (a, v) :: m)
    else if a < b then (if v = Memory.unlisted then (b, w) :: m else (a, v) :: (b, w) :: m)
    else (b, w) :: Memory.write m a v

/-- The canonical form from address `lo` on. -/
def Memory.wfFrom (size : Nat) : Nat → Memory → Bool
  | _, [] => true
  | lo, (a, v) :: m =>
    decide (lo ≤ a) && decide (a < size) && decide (v ≠ Memory.unlisted) && Memory.wfFrom size (a + 1) m

/-- The canonical form of an array of `size` bytes. -/
def Memory.wf (size : Nat) (m : Memory) : Bool := Memory.wfFrom size 0 m

end Sys2Proof.Machine
end

