-- ==== Sys2Proof/Machine/Devices.lean ====
section
/-! DEFINITION. The state records of the two devices, the debugger configuration and the snapshot record, with
their values after cold init (10_state.md R20 to R37, R41, R43). -/

namespace Sys2Proof.Machine

/-- The seven values `batteryReadState` takes in every reachable state (10_state.md R22, R44). -/
def batteryStates : List Byte := [0x00#8, 0x01#8, 0x03#8, 0x05#8, 0x07#8, 0x09#8, 0x0B#8]

/-- `batterySetLevel` (10_state.md R23). -/
inductive BatteryLevel where
  | level0
  | level1
  | level2
  | level3
  | level4
  | discharged
  deriving DecidableEq, Repr

/-- The ControlDevice's state (10_state.md R20 to R29). -/
structure CtrlState where
  /-- the raw backing store, 256 bytes (R20) -/
  ports : Memory
  /-- the CPU speed code (R21) -/
  cpuSpeedCode : BitVec 5
  /-- the level-reporting state machine, the byte a read returns (R22, 41_control.md R102); a record built by hand may hold
  another value than those of R22 (43_sideband.md R197; DEDUCED log 13) -/
  batteryReadState : Byte
  /-- the target level the environment asks for (R23) -/
  batterySetLevel : BatteryLevel
  /-- the charger input (R24) -/
  batteryCharging : Bool
  /-- addresses at or below it are privileged (R25) -/
  privilegedBoundary : Word24
  /-- the first address of the protected range (R26) -/
  protectedStart : Word24
  /-- the last address of the protected range (R26) -/
  protectedEnd : Word24
  /-- held and read back, used by no check (R27) -/
  stackLimit : Word24
  /-- the latched violation flags (R28) -/
  protectionStatus : Byte
  /-- the off mark (R29) -/
  poweredOff : Bool
  deriving DecidableEq, Repr

/-- The endpoint-0 control-transfer state (10_state.md R34): these four and no other (93_implementation_defined.md
I15). -/
inductive TransferState where
  | idle
  | setupReceived
  | dataStage
  | statusStage
  deriving DecidableEq, Repr

/-- The USBDeviceController's state (10_state.md R31 to R35). -/
structure UsbState where
  /-- the register block, 512 bytes (R31) -/
  regs : Memory
  /-- the setup-packet staging buffer (R32) -/
  ep0Buffer : Vector Byte 8
  /-- the cursor into `ep0Buffer` (R33) -/
  ep0Index : Nat
  /-- the endpoint-0 state (R34) -/
  transferState : TransferState
  /-- where the queued IN data stands (R35) -/
  pendingBuffer : HostPtr
  /-- how many bytes of it are left (R35) -/
  pendingLength : Nat
  deriving DecidableEq, Repr

/-- A map over the 65,536 I/O addresses (10_state.md R37): the addresses whose bit is set, strictly rising. -/
abbrev AddrMap := List Addr

/-- The bit of address `a`. -/
def AddrMap.has (m : AddrMap) (a : Addr) : Bool := m.contains a

/-- The canonical form of an address map, from `lo` on. -/
def AddrMap.wfFrom : Nat → AddrMap → Bool
  | _, [] => true
  | lo, a :: m => decide (lo ≤ a.toNat) && AddrMap.wfFrom (a.toNat + 1) m

/-- The canonical form of an address map: strictly rising. -/
def AddrMap.wf (m : AddrMap) : Bool := AddrMap.wfFrom 0 m

/-- The debugger's configuration, an input (10_state.md R37, 43_sideband.md R195). -/
structure DebugConfig where
  /-- a debugger is present -/
  attached : Bool
  /-- it opens on a reset request -/
  openOnReset : Bool
  /-- addresses whose observable reads are watched -/
  watchRead : AddrMap
  /-- addresses whose observable writes are watched -/
  watchWrite : AddrMap
  /-- addresses whose observable writes are suppressed -/
  freeze : AddrMap
  deriving DecidableEq, Repr

/-- All three maps are canonical. -/
def DebugConfig.wf (d : DebugConfig) : Bool :=
  AddrMap.wf d.watchRead && AddrMap.wf d.watchWrite && AddrMap.wf d.freeze

/-- The layout tag of a snapshot record (43_sideband.md R196): `SNAP_LAYOUT`, the tag of this spec's state layout,
or a tag of some other layout. The spec gives the tag no number. DESIGN CHOICE log 14. -/
inductive SnapLayout where
  /-- `SNAP_LAYOUT` -/
  | thisSpec
  /-- any other layout -/
  | other (tag : Nat)
  deriving DecidableEq, Repr

/-- A snapshot record (10_state.md R43, 43_sideband.md R196). -/
structure Snapshot where
  layout : SnapLayout
  ctrl : CtrlState
  usb : UsbState
  deriving DecidableEq, Repr

/-- The byte arrays of a ControlDevice record are canonical and 256 bytes long (R20). -/
def CtrlState.wf (c : CtrlState) : Bool := Memory.wf 256 c.ports

/-- The register block of a USB record is canonical and 512 bytes long (R31). -/
def UsbState.wf (u : UsbState) : Bool := Memory.wf 512 u.regs

/-- A record of this spec's layout holds canonical byte arrays; nothing is asked of a record of another layout. -/
def Snapshot.wf (n : Snapshot) : Bool :=
  match n.layout with
  | .thisSpec => CtrlState.wf n.ctrl && UsbState.wf n.usb
  | .other _ => true

/-- `CtrlInit()` (43_sideband.md R190): every field at its value of 10_state.md R41. -/
def CtrlState.coldInit : CtrlState where
  ports := [(0x0F, Config.usbMirrorReset)]
  cpuSpeedCode := 0#5
  batteryReadState := 0x00#8
  batterySetLevel := .level4
  batteryCharging := false
  privilegedBoundary := 0xFFFFFF#24
  protectedStart := Config.protReset
  protectedEnd := Config.protReset
  stackLimit := 0x000000#24
  protectionStatus := 0x00#8
  poweredOff := false

/-- `UsbClear()` (42_usb.md R187): every field at its value of 10_state.md R41. -/
def UsbState.cleared : UsbState where
  regs := []
  ep0Buffer := Vector.replicate 8 0x00#8
  ep0Index := 0
  transferState := .idle
  pendingBuffer := .null
  pendingLength := 0

end Sys2Proof.Machine
end

