-- ==== Sys2Proof/Syntax.lean ====
section
/-! DEFINITION. The syntax of the block's operations: register names, side-band operations, typed operands, the
transaction (one 32-bit word and the operands that travel beside it), and `Instr`, one constructor for each row of
spec/opcode_table.json in the table's order. -/

namespace Sys2Proof

/-- The named control registers (41_control.md R93, 30_encoding.md R68). -/
inductive CtrlReg where
  | reset
  | speed
  | battStatus
  | devtype
  | powerMode
  | battHs
  | charge
  | shutdown
  | usbMirror
  | priv0
  | priv1
  | priv2
  | pstart0
  | pstart1
  | pstart2
  | pend0
  | pend1
  | pend2
  | misc
  | stack0
  | stack1
  | stack2
  | pstatus
  | pack
  deriving DecidableEq, Repr

/-- The named USB registers (42_usb.md R137, 30_encoding.md R69). -/
inductive UsbReg where
  | usbsts
  | usbintr
  | otgisr
  | otgier
  | gisr
  | gmir
  | dcfesr
  | dmigr
  | dmisg0
  | dmisg1
  | dmisg2
  | digr
  | disg0
  | disg1
  | disg2
  | cxport
  deriving DecidableEq, Repr

/-- The side-band operations (30_encoding.md R71). -/
inductive SbOp where
  | coldInit
  | globalReset
  | usbReset
  | privCheck
  | latchViolation
  | setBatteryLevel
  | setCharging
  | setDebugConfig
  | usbHostInt
  | usbOtgInt
  | usbGrp0Int
  | usbGrp1Int
  | usbGrp2Int
  | usbSetup
  | usbQueueSend
  | usbServeIn
  | usbStatusSummary
  | snapshotSave
  | snapshotRestore
  | powerState
  deriving DecidableEq, Repr

/-- A typed operand of a side-band operation, beside the word (30_encoding.md R65, R66, R71). DESIGN CHOICE log 16. -/
inductive Operand where
  | u8 (v : Byte)
  | u16 (v : BitVec 16)
  | u24 (v : Word24)
  | u32 (v : Word32)
  | nat (n : Nat)
  | bool (b : Bool)
  | bytes (l : List Byte)
  | ptr (p : HostPtr)
  | debugConfig (cfg : Machine.DebugConfig)
  | snapshot (snap : Machine.Snapshot)
  deriving DecidableEq, Repr

/-- The type of an operand (30_encoding.md R71). -/
inductive OperandType where
  | u8
  | u16
  | u24
  | u32
  | nat
  | bool
  | bytes
  | ptr
  | debugConfig
  | snapshot
  deriving DecidableEq, Repr

/-- One operation at the block's interface: its word and the operands beside it (30_encoding.md R63, R65). -/
structure Transaction where
  word : Word32
  operands : List Operand
  deriving DecidableEq, Repr

/-- The operations. In a port access `obs` is the observable flag (`true` for RD and WR, `false` for PEEK and POKE,
30_encoding.md R64), `al` the address bits the device's mirror mask drops (R62), `lane` the byte lane of a USB
register (R69), `v` the data byte of a write. A read's data byte is ignored (R64) and is no operand. DEDUCED log 27. -/
inductive Instr where
  /-- CTRL.RESET.R: 41_control.md R99 -/
  | ctrlResetR (obs : Bool) (al : BitVec 5)
  /-- CTRL.RESET.W: 41_control.md R98 -/
  | ctrlResetW (obs : Bool) (al : BitVec 5) (v : Byte)
  /-- CTRL.SPEED.R: 41_control.md R101 -/
  | ctrlSpeedR (obs : Bool) (al : BitVec 5)
  /-- CTRL.SPEED.W: 41_control.md R100 -/
  | ctrlSpeedW (obs : Bool) (al : BitVec 5) (v : Byte)
  /-- CTRL.BATT_STATUS.R: 41_control.md R102 -/
  | ctrlBattStatusR (obs : Bool) (al : BitVec 5)
  /-- CTRL.BATT_STATUS.W: 41_control.md R103 -/
  | ctrlBattStatusW (obs : Bool) (al : BitVec 5) (v : Byte)
  /-- CTRL.DEVTYPE.R: 41_control.md R104 -/
  | ctrlDevtypeR (obs : Bool) (al : BitVec 5)
  /-- CTRL.DEVTYPE.W: 41_control.md R105 -/
  | ctrlDevtypeW (obs : Bool) (al : BitVec 5) (v : Byte)
  /-- CTRL.POWER_MODE.R: 41_control.md R107 -/
  | ctrlPowerModeR (obs : Bool) (al : BitVec 5)
  /-- CTRL.POWER_MODE.W: 41_control.md R106 -/
  | ctrlPowerModeW (obs : Bool) (al : BitVec 5) (v : Byte)
  /-- CTRL.BATT_HS.R: 41_control.md R110 -/
  | ctrlBattHsR (obs : Bool) (al : BitVec 5)
  /-- CTRL.BATT_HS.W: 41_control.md R109 -/
  | ctrlBattHsW (obs : Bool) (al : BitVec 5) (v : Byte)
  /-- CTRL.CHARGE.R: 41_control.md R111 -/
  | ctrlChargeR (obs : Bool) (al : BitVec 5)
  /-- CTRL.CHARGE.W: 41_control.md R112 -/
  | ctrlChargeW (obs : Bool) (al : BitVec 5) (v : Byte)
  /-- CTRL.SHUTDOWN.R: 41_control.md R114 -/
  | ctrlShutdownR (obs : Bool) (al : BitVec 5)
  /-- CTRL.SHUTDOWN.W: 41_control.md R113 -/
  | ctrlShutdownW (obs : Bool) (al : BitVec 5) (v : Byte)
  /-- CTRL.USB_MIRROR.R: 41_control.md R115 -/
  | ctrlUsbMirrorR (obs : Bool) (al : BitVec 5)
  /-- CTRL.USB_MIRROR.W: 41_control.md R116 -/
  | ctrlUsbMirrorW (obs : Bool) (al : BitVec 5) (v : Byte)
  /-- CTRL.PRIV0.R: 41_control.md R117 -/
  | ctrlPriv0R (obs : Bool) (al : BitVec 5)
  /-- CTRL.PRIV0.W: 41_control.md R118 -/
  | ctrlPriv0W (obs : Bool) (al : BitVec 5) (v : Byte)
  /-- CTRL.PRIV1.R: 41_control.md R117 -/
  | ctrlPriv1R (obs : Bool) (al : BitVec 5)
  /-- CTRL.PRIV1.W: 41_control.md R118 -/
  | ctrlPriv1W (obs : Bool) (al : BitVec 5) (v : Byte)
  /-- CTRL.PRIV2.R: 41_control.md R117 -/
  | ctrlPriv2R (obs : Bool) (al : BitVec 5)
  /-- CTRL.PRIV2.W: 41_control.md R118 -/
  | ctrlPriv2W (obs : Bool) (al : BitVec 5) (v : Byte)
  /-- CTRL.PSTART0.R: 41_control.md R119 -/
  | ctrlPstart0R (obs : Bool) (al : BitVec 5)
  /-- CTRL.PSTART0.W: 41_control.md R120 -/
  | ctrlPstart0W (obs : Bool) (al : BitVec 5) (v : Byte)
  /-- CTRL.PSTART1.R: 41_control.md R119 -/
  | ctrlPstart1R (obs : Bool) (al : BitVec 5)
  /-- CTRL.PSTART1.W: 41_control.md R120 -/
  | ctrlPstart1W (obs : Bool) (al : BitVec 5) (v : Byte)
  /-- CTRL.PSTART2.R: 41_control.md R119 -/
  | ctrlPstart2R (obs : Bool) (al : BitVec 5)
  /-- CTRL.PSTART2.W: 41_control.md R120 -/
  | ctrlPstart2W (obs : Bool) (al : BitVec 5) (v : Byte)
  /-- CTRL.PEND0.R: 41_control.md R121 -/
  | ctrlPend0R (obs : Bool) (al : BitVec 5)
  /-- CTRL.PEND0.W: 41_control.md R122 -/
  | ctrlPend0W (obs : Bool) (al : BitVec 5) (v : Byte)
  /-- CTRL.PEND1.R: 41_control.md R121 -/
  | ctrlPend1R (obs : Bool) (al : BitVec 5)
  /-- CTRL.PEND1.W: 41_control.md R122 -/
  | ctrlPend1W (obs : Bool) (al : BitVec 5) (v : Byte)
  /-- CTRL.PEND2.R: 41_control.md R121 -/
  | ctrlPend2R (obs : Bool) (al : BitVec 5)
  /-- CTRL.PEND2.W: 41_control.md R122 -/
  | ctrlPend2W (obs : Bool) (al : BitVec 5) (v : Byte)
  /-- CTRL.MISC.R: 41_control.md R125 -/
  | ctrlMiscR (obs : Bool) (al : BitVec 5)
  /-- CTRL.MISC.W: 41_control.md R126 -/
  | ctrlMiscW (obs : Bool) (al : BitVec 5) (v : Byte)
  /-- CTRL.STACK0.R: 41_control.md R123 -/
  | ctrlStack0R (obs : Bool) (al : BitVec 5)
  /-- CTRL.STACK0.W: 41_control.md R124 -/
  | ctrlStack0W (obs : Bool) (al : BitVec 5) (v : Byte)
  /-- CTRL.STACK1.R: 41_control.md R123 -/
  | ctrlStack1R (obs : Bool) (al : BitVec 5)
  /-- CTRL.STACK1.W: 41_control.md R124 -/
  | ctrlStack1W (obs : Bool) (al : BitVec 5) (v : Byte)
  /-- CTRL.STACK2.R: 41_control.md R123 -/
  | ctrlStack2R (obs : Bool) (al : BitVec 5)
  /-- CTRL.STACK2.W: 41_control.md R124 -/
  | ctrlStack2W (obs : Bool) (al : BitVec 5) (v : Byte)
  /-- CTRL.PSTATUS.R: 41_control.md R127 -/
  | ctrlPstatusR (obs : Bool) (al : BitVec 5)
  /-- CTRL.PSTATUS.W: 41_control.md R128 -/
  | ctrlPstatusW (obs : Bool) (al : BitVec 5) (v : Byte)
  /-- CTRL.PACK.R: 41_control.md R130 -/
  | ctrlPackR (obs : Bool) (al : BitVec 5)
  /-- CTRL.PACK.W: 41_control.md R129 -/
  | ctrlPackW (obs : Bool) (al : BitVec 5) (v : Byte)
  /-- CTRL.RAW.R: 41_control.md R131 -/
  | ctrlRawR (obs : Bool) (al : BitVec 5) (off : BitVec 7)
  /-- CTRL.RAW.W: 41_control.md R132 -/
  | ctrlRawW (obs : Bool) (al : BitVec 5) (off : BitVec 7) (v : Byte)
  /-- USB.USBSTS.R: 42_usb.md R142 -/
  | usbUsbstsR (obs : Bool) (al : BitVec 3) (lane : BitVec 2)
  /-- USB.USBSTS.W: 42_usb.md R143 -/
  | usbUsbstsW (obs : Bool) (al : BitVec 3) (lane : BitVec 2) (v : Byte)
  /-- USB.USBINTR.R: 42_usb.md R144 -/
  | usbUsbintrR (obs : Bool) (al : BitVec 3) (lane : BitVec 2)
  /-- USB.USBINTR.W: 42_usb.md R145 -/
  | usbUsbintrW (obs : Bool) (al : BitVec 3) (lane : BitVec 2) (v : Byte)
  /-- USB.OTGISR.R: 42_usb.md R146 -/
  | usbOtgisrR (obs : Bool) (al : BitVec 3) (lane : BitVec 2)
  /-- USB.OTGISR.W: 42_usb.md R147 -/
  | usbOtgisrW (obs : Bool) (al : BitVec 3) (lane : BitVec 2) (v : Byte)
  /-- USB.OTGIER.R: 42_usb.md R148 -/
  | usbOtgierR (obs : Bool) (al : BitVec 3) (lane : BitVec 2)
  /-- USB.OTGIER.W: 42_usb.md R149 -/
  | usbOtgierW (obs : Bool) (al : BitVec 3) (lane : BitVec 2) (v : Byte)
  /-- USB.GISR.R: 42_usb.md R150 -/
  | usbGisrR (obs : Bool) (al : BitVec 3) (lane : BitVec 2)
  /-- USB.GISR.W: 42_usb.md R151 -/
  | usbGisrW (obs : Bool) (al : BitVec 3) (lane : BitVec 2) (v : Byte)
  /-- USB.GMIR.R: 42_usb.md R152 -/
  | usbGmirR (obs : Bool) (al : BitVec 3) (lane : BitVec 2)
  /-- USB.GMIR.W: 42_usb.md R153 -/
  | usbGmirW (obs : Bool) (al : BitVec 3) (lane : BitVec 2) (v : Byte)
  /-- USB.DCFESR.R: 42_usb.md R154 -/
  | usbDcfesrR (obs : Bool) (al : BitVec 3) (lane : BitVec 2)
  /-- USB.DCFESR.W: 42_usb.md R155 -/
  | usbDcfesrW (obs : Bool) (al : BitVec 3) (lane : BitVec 2) (v : Byte)
  /-- USB.DMIGR.R: 42_usb.md R156 -/
  | usbDmigrR (obs : Bool) (al : BitVec 3) (lane : BitVec 2)
  /-- USB.DMIGR.W: 42_usb.md R157 -/
  | usbDmigrW (obs : Bool) (al : BitVec 3) (lane : BitVec 2) (v : Byte)
  /-- USB.DMISG0.R: 42_usb.md R158 -/
  | usbDmisg0R (obs : Bool) (al : BitVec 3) (lane : BitVec 2)
  /-- USB.DMISG0.W: 42_usb.md R159 -/
  | usbDmisg0W (obs : Bool) (al : BitVec 3) (lane : BitVec 2) (v : Byte)
  /-- USB.DMISG1.R: 42_usb.md R160 -/
  | usbDmisg1R (obs : Bool) (al : BitVec 3) (lane : BitVec 2)
  /-- USB.DMISG1.W: 42_usb.md R161 -/
  | usbDmisg1W (obs : Bool) (al : BitVec 3) (lane : BitVec 2) (v : Byte)
  /-- USB.DMISG2.R: 42_usb.md R162 -/
  | usbDmisg2R (obs : Bool) (al : BitVec 3) (lane : BitVec 2)
  /-- USB.DMISG2.W: 42_usb.md R163 -/
  | usbDmisg2W (obs : Bool) (al : BitVec 3) (lane : BitVec 2) (v : Byte)
  /-- USB.DIGR.R: 42_usb.md R164 -/
  | usbDigrR (obs : Bool) (al : BitVec 3) (lane : BitVec 2)
  /-- USB.DIGR.W: 42_usb.md R165 -/
  | usbDigrW (obs : Bool) (al : BitVec 3) (lane : BitVec 2) (v : Byte)
  /-- USB.DISG0.R: 42_usb.md R166 -/
  | usbDisg0R (obs : Bool) (al : BitVec 3) (lane : BitVec 2)
  /-- USB.DISG0.W: 42_usb.md R167 -/
  | usbDisg0W (obs : Bool) (al : BitVec 3) (lane : BitVec 2) (v : Byte)
  /-- USB.DISG1.R: 42_usb.md R168 -/
  | usbDisg1R (obs : Bool) (al : BitVec 3) (lane : BitVec 2)
  /-- USB.DISG1.W: 42_usb.md R169 -/
  | usbDisg1W (obs : Bool) (al : BitVec 3) (lane : BitVec 2) (v : Byte)
  /-- USB.DISG2.R: 42_usb.md R170 -/
  | usbDisg2R (obs : Bool) (al : BitVec 3) (lane : BitVec 2)
  /-- USB.DISG2.W: 42_usb.md R171 -/
  | usbDisg2W (obs : Bool) (al : BitVec 3) (lane : BitVec 2) (v : Byte)
  /-- USB.CXPORT.R: 42_usb.md R172 -/
  | usbCxportR (obs : Bool) (al : BitVec 3) (lane : BitVec 2)
  /-- USB.CXPORT.W: 42_usb.md R173 -/
  | usbCxportW (obs : Bool) (al : BitVec 3) (lane : BitVec 2) (v : Byte)
  /-- USB.RAW.R: 42_usb.md R174 -/
  | usbRawR (obs : Bool) (al : BitVec 3) (off : BitVec 9)
  /-- USB.RAW.W: 42_usb.md R175 -/
  | usbRawW (obs : Bool) (al : BitVec 3) (off : BitVec 9) (v : Byte)
  /-- EXT.R: 40_dispatcher.md R84 -/
  | extR (obs : Bool) (k : RangeNo) (l : Offset)
  /-- EXT.W: 40_dispatcher.md R84 -/
  | extW (obs : Bool) (k : RangeNo) (l : Offset) (v : Byte)
  /-- SB.COLD_INIT: 43_sideband.md R190 -/
  | sbColdInit
  /-- SB.GLOBAL_RESET: 43_sideband.md R191 -/
  | sbGlobalReset
  /-- SB.USB_RESET: 42_usb.md R187 -/
  | sbUsbReset
  /-- SB.PRIV_CHECK: 41_control.md R133 -/
  | sbPrivCheck (pc : Word24)
  /-- SB.LATCH_VIOLATION: 43_sideband.md R192 -/
  | sbLatchViolation (bits : Byte)
  /-- SB.SET_BATTERY_LEVEL: 43_sideband.md R193 -/
  | sbSetBatteryLevel (level : Machine.BatteryLevel)
  /-- SB.SET_CHARGING: 43_sideband.md R194 -/
  | sbSetCharging (b : Bool)
  /-- SB.SET_DEBUG_CONFIG: 43_sideband.md R195 -/
  | sbSetDebugConfig (cfg : Machine.DebugConfig)
  /-- SB.USB_HOST_INT: 42_usb.md R177 -/
  | sbUsbHostInt (bits : Byte)
  /-- SB.USB_OTG_INT: 42_usb.md R178 -/
  | sbUsbOtgInt (bits : Word32)
  /-- SB.USB_GRP0_INT: 42_usb.md R179 -/
  | sbUsbGrp0Int (bits : Byte)
  /-- SB.USB_GRP1_INT: 42_usb.md R180 -/
  | sbUsbGrp1Int (bits : Word32)
  /-- SB.USB_GRP2_INT: 42_usb.md R181 -/
  | sbUsbGrp2Int (bits : BitVec 16)
  /-- SB.USB_SETUP: 42_usb.md R182 -/
  | sbUsbSetup (bytes : List Byte)
  /-- SB.USB_QUEUE_SEND: 42_usb.md R183 -/
  | sbUsbQueueSend (buf : HostPtr) (len : Nat)
  /-- SB.USB_SERVE_IN: 42_usb.md R185 -/
  | sbUsbServeIn
  /-- SB.USB_STATUS_SUMMARY: 42_usb.md R186 -/
  | sbUsbStatusSummary
  /-- SB.SNAPSHOT_SAVE: 43_sideband.md R196 -/
  | sbSnapshotSave
  /-- SB.SNAPSHOT_RESTORE: 43_sideband.md R197 -/
  | sbSnapshotRestore (snap : Machine.Snapshot)
  /-- SB.POWER_STATE: 43_sideband.md R198 -/
  | sbPowerState
  deriving DecidableEq, Repr

end Sys2Proof
end

