-- ==== Sys2Proof/Machine/Operands.lean ====
section
/-! DEFINITION. The operand forms: byte lanes of multi-byte registers, the register maps of the two devices, the
addresses the operations name, and the offset a device observes (00_scope.md R9, 30_encoding.md R61 to R69). -/

namespace Sys2Proof.Machine

/-- `byte_n(x, n)` (00_scope.md R9); byte 0 is the least significant, at the lowest address
(20_memory.md R49, R50). -/
def byteN {w : Nat} (x : BitVec w) (n : Nat) : Byte := x.extractLsb' (8 * n) 8

/-- `insert_n(x, n, b)` (00_scope.md R9): byte `n` of `x` becomes `b`, every other bit is kept. -/
def insertN (x : Word24) (n : Nat) (b : Byte) : Word24 :=
  (x &&& ~~~(0xFF#24 <<< (8 * n))) ||| (b.setWidth 24 <<< (8 * n))

/-- `MIRROR[k]` (00_scope.md R7, 20_memory.md R54). -/
def mirror (k : RangeNo) : Offset :=
  if k = Config.ctrlRange then 0x07F#12 else if k = Config.usbRange then 0x1FF#12 else Config.mirrorOpen k

/-- The range selector of an address (30_encoding.md R61). -/
def rangeOf (addr : Addr) : RangeNo := addr.extractLsb' 12 4

/-- The offset the device of the address's range observes (30_encoding.md R62, 40_dispatcher.md R77). -/
def offsetOf (addr : Addr) : Offset := addr.extractLsb' 0 12 &&& mirror (rangeOf addr)

/-- `CTRL_MAP`, the offset of each named control register (41_control.md R93, 30_encoding.md R68). PRESUMED log 18. -/
def ctrlOffset : CtrlReg → BitVec 7
  | .reset => 0x00#7
  | .speed => 0x01#7
  | .battStatus => 0x02#7
  | .devtype => 0x03#7
  | .powerMode => 0x07#7
  | .battHs => 0x09#7
  | .charge => 0x0A#7
  | .shutdown => 0x0C#7
  | .usbMirror => 0x0F#7
  | .priv0 => 0x1D#7
  | .priv1 => 0x1E#7
  | .priv2 => 0x1F#7
  | .pstart0 => 0x20#7
  | .pstart1 => 0x21#7
  | .pstart2 => 0x22#7
  | .pend0 => 0x23#7
  | .pend1 => 0x24#7
  | .pend2 => 0x25#7
  | .misc => 0x28#7
  | .stack0 => 0x3A#7
  | .stack1 => 0x3B#7
  | .stack2 => 0x3C#7
  | .pstatus => 0x3D#7
  | .pack => 0x3E#7

/-- The named control registers in the order of the map. -/
def ctrlRegs : List CtrlReg :=
  [.reset, .speed, .battStatus, .devtype, .powerMode, .battHs, .charge, .shutdown, .usbMirror,
   .priv0, .priv1, .priv2, .pstart0, .pstart1, .pstart2, .pend0, .pend1, .pend2,
   .misc, .stack0, .stack1, .stack2, .pstatus, .pack]

/-- The named register at a control offset, if there is one; the others are RAW (30_encoding.md R67, R68). -/
def ctrlRegAt (off : BitVec 7) : Option CtrlReg := ctrlRegs.find? (fun r => ctrlOffset r == off)

/-- The base of each named USB register (42_usb.md R137, 30_encoding.md R69). PRESUMED log 18. -/
def usbBase : UsbReg → BitVec 9
  | .usbsts => 0x014#9
  | .usbintr => 0x018#9
  | .otgisr => 0x084#9
  | .otgier => 0x088#9
  | .gisr => 0x0C0#9
  | .gmir => 0x0C4#9
  | .dcfesr => 0x120#9
  | .dmigr => 0x130#9
  | .dmisg0 => 0x134#9
  | .dmisg1 => 0x138#9
  | .dmisg2 => 0x13C#9
  | .digr => 0x140#9
  | .disg0 => 0x144#9
  | .disg1 => 0x148#9
  | .disg2 => 0x14C#9
  | .cxport => 0x1D0#9

/-- The named USB registers in the order of the map. -/
def usbRegs : List UsbReg :=
  [.usbsts, .usbintr, .otgisr, .otgier, .gisr, .gmir, .dcfesr, .dmigr,
   .dmisg0, .dmisg1, .dmisg2, .digr, .disg0, .disg1, .disg2, .cxport]

/-- The named register whose four bytes hold a USB offset, if there is one; the others are RAW
(30_encoding.md R67, R69; 42_usb.md R140 selects by `off & 0x1FC`). -/
def usbRegAt (off : BitVec 9) : Option UsbReg := usbRegs.find? (fun r => usbBase r == off &&& 0x1FC#9)

/-- The offset of one byte lane of a named USB register (30_encoding.md R69). -/
def usbLane (r : UsbReg) (lane : BitVec 2) : BitVec 9 := usbBase r ||| lane.setWidth 9

/-- The address of a control offset under alias `al` (30_encoding.md R62: `L[11:7]` free). -/
def ctrlAddr (off : BitVec 7) (al : BitVec 5) : Addr := Config.ctrlRange ++ al ++ off

/-- The address of a USB offset under alias `al` (30_encoding.md R62: `L[11:9]` free). -/
def usbAddr (off : BitVec 9) (al : BitVec 3) : Addr := Config.usbRange ++ al ++ off

/-- The address with selector `k` and low bits `l` (30_encoding.md R61). -/
def extAddr (k : RangeNo) (l : Offset) : Addr := k ++ l

/-- The level a number names (43_sideband.md R193); 6 and above name none (30_encoding.md R72). -/
def levelOfNat : Nat → Option BatteryLevel
  | 0 => some .level0
  | 1 => some .level1
  | 2 => some .level2
  | 3 => some .level3
  | 4 => some .level4
  | 5 => some .discharged
  | _ => none

/-- The number of a level (43_sideband.md R193). -/
def levelToNat : BatteryLevel → Nat
  | .level0 => 0
  | .level1 => 1
  | .level2 => 2
  | .level3 => 3
  | .level4 => 4
  | .discharged => 5

/-- A position `n` bytes further on (42_usb.md R184). From the empty view no rule says which (DESIGN CHOICE log 6). -/
def ptrPlus : HostPtr → Nat → HostPtr
  | .pos p, n => .pos (p + n)
  | .null, n => Config.nullPlus n

end Sys2Proof.Machine
end

