-- ==== Sys2Proof/WellFormed.lean ====
section
/-! DEFINITION. When an operation is well formed: a RAW row holds only offsets no named row takes, an external row
only a range that is not one of the two devices', and a structured operand is in its one canonical form. -/

namespace Sys2Proof

open Machine

/-- The well-formed operations: those a transaction decodes to (30_encoding.md R67, R70, R72). -/
def Instr.wf : Instr → Bool
  | .ctrlResetR _ _ => true
  | .ctrlResetW _ _ _ => true
  | .ctrlSpeedR _ _ => true
  | .ctrlSpeedW _ _ _ => true
  | .ctrlBattStatusR _ _ => true
  | .ctrlBattStatusW _ _ _ => true
  | .ctrlDevtypeR _ _ => true
  | .ctrlDevtypeW _ _ _ => true
  | .ctrlPowerModeR _ _ => true
  | .ctrlPowerModeW _ _ _ => true
  | .ctrlBattHsR _ _ => true
  | .ctrlBattHsW _ _ _ => true
  | .ctrlChargeR _ _ => true
  | .ctrlChargeW _ _ _ => true
  | .ctrlShutdownR _ _ => true
  | .ctrlShutdownW _ _ _ => true
  | .ctrlUsbMirrorR _ _ => true
  | .ctrlUsbMirrorW _ _ _ => true
  | .ctrlPriv0R _ _ => true
  | .ctrlPriv0W _ _ _ => true
  | .ctrlPriv1R _ _ => true
  | .ctrlPriv1W _ _ _ => true
  | .ctrlPriv2R _ _ => true
  | .ctrlPriv2W _ _ _ => true
  | .ctrlPstart0R _ _ => true
  | .ctrlPstart0W _ _ _ => true
  | .ctrlPstart1R _ _ => true
  | .ctrlPstart1W _ _ _ => true
  | .ctrlPstart2R _ _ => true
  | .ctrlPstart2W _ _ _ => true
  | .ctrlPend0R _ _ => true
  | .ctrlPend0W _ _ _ => true
  | .ctrlPend1R _ _ => true
  | .ctrlPend1W _ _ _ => true
  | .ctrlPend2R _ _ => true
  | .ctrlPend2W _ _ _ => true
  | .ctrlMiscR _ _ => true
  | .ctrlMiscW _ _ _ => true
  | .ctrlStack0R _ _ => true
  | .ctrlStack0W _ _ _ => true
  | .ctrlStack1R _ _ => true
  | .ctrlStack1W _ _ _ => true
  | .ctrlStack2R _ _ => true
  | .ctrlStack2W _ _ _ => true
  | .ctrlPstatusR _ _ => true
  | .ctrlPstatusW _ _ _ => true
  | .ctrlPackR _ _ => true
  | .ctrlPackW _ _ _ => true
  | .ctrlRawR _ _ off => ctrlRegAt off == none
  | .ctrlRawW _ _ off _ => ctrlRegAt off == none
  | .usbUsbstsR _ _ _ => true
  | .usbUsbstsW _ _ _ _ => true
  | .usbUsbintrR _ _ _ => true
  | .usbUsbintrW _ _ _ _ => true
  | .usbOtgisrR _ _ _ => true
  | .usbOtgisrW _ _ _ _ => true
  | .usbOtgierR _ _ _ => true
  | .usbOtgierW _ _ _ _ => true
  | .usbGisrR _ _ _ => true
  | .usbGisrW _ _ _ _ => true
  | .usbGmirR _ _ _ => true
  | .usbGmirW _ _ _ _ => true
  | .usbDcfesrR _ _ _ => true
  | .usbDcfesrW _ _ _ _ => true
  | .usbDmigrR _ _ _ => true
  | .usbDmigrW _ _ _ _ => true
  | .usbDmisg0R _ _ _ => true
  | .usbDmisg0W _ _ _ _ => true
  | .usbDmisg1R _ _ _ => true
  | .usbDmisg1W _ _ _ _ => true
  | .usbDmisg2R _ _ _ => true
  | .usbDmisg2W _ _ _ _ => true
  | .usbDigrR _ _ _ => true
  | .usbDigrW _ _ _ _ => true
  | .usbDisg0R _ _ _ => true
  | .usbDisg0W _ _ _ _ => true
  | .usbDisg1R _ _ _ => true
  | .usbDisg1W _ _ _ _ => true
  | .usbDisg2R _ _ _ => true
  | .usbDisg2W _ _ _ _ => true
  | .usbCxportR _ _ _ => true
  | .usbCxportW _ _ _ _ => true
  | .usbRawR _ _ off => usbRegAt off == none
  | .usbRawW _ _ off _ => usbRegAt off == none
  | .extR _ k _ => k != Config.ctrlRange && k != Config.usbRange
  | .extW _ k _ _ => k != Config.ctrlRange && k != Config.usbRange
  | .sbColdInit => true
  | .sbGlobalReset => true
  | .sbUsbReset => true
  | .sbPrivCheck _ => true
  | .sbLatchViolation _ => true
  | .sbSetBatteryLevel _ => true
  | .sbSetCharging _ => true
  | .sbSetDebugConfig cfg => DebugConfig.wf cfg
  | .sbUsbHostInt _ => true
  | .sbUsbOtgInt _ => true
  | .sbUsbGrp0Int _ => true
  | .sbUsbGrp1Int _ => true
  | .sbUsbGrp2Int _ => true
  | .sbUsbSetup _ => true
  | .sbUsbQueueSend _ _ => true
  | .sbUsbServeIn => true
  | .sbUsbStatusSummary => true
  | .sbSnapshotSave => true
  | .sbSnapshotRestore snap => Snapshot.wf snap
  | .sbPowerState => true

end Sys2Proof
end

