-- ==== Sys2Proof/Decode.lean ====
section
/-! DEFINITION. Decoding a transaction (30_encoding.md R63 to R72), total, rejecting by name; then the encoder from the
same tables, the opcode table itself, and the assembler's lines and pseudo-operations (R73, R74). -/

namespace Sys2Proof

open Machine

/-- Why a transaction is refused (30_encoding.md R72). Each refusal is safe: the spec gives the word no meaning. -/
inductive DecodeError where
  /-- a PORT word whose bits 30:26 are not all 0 -/
  | reservedPortBits
  /-- an SB word whose bits 23:0 are not all 0 -/
  | reservedSideBandBits
  /-- an SB word whose `OP` is 0x00 or above 0x14 -/
  | reservedSideBandOp
  /-- SB.SET_BATTERY_LEVEL with a level of 6 or more -/
  | reservedBatteryLevel
  /-- an operand list without the types 30_encoding.md R71 gives -/
  | mistypedOperands
  deriving DecidableEq, Repr

/-! ### PORT words -/

/-- The read row of a named control register (30_encoding.md R68). -/
def ctrlReadInstr (obs : Bool) (al : BitVec 5) : CtrlReg → Instr
  | .reset => .ctrlResetR obs al
  | .speed => .ctrlSpeedR obs al
  | .battStatus => .ctrlBattStatusR obs al
  | .devtype => .ctrlDevtypeR obs al
  | .powerMode => .ctrlPowerModeR obs al
  | .battHs => .ctrlBattHsR obs al
  | .charge => .ctrlChargeR obs al
  | .shutdown => .ctrlShutdownR obs al
  | .usbMirror => .ctrlUsbMirrorR obs al
  | .priv0 => .ctrlPriv0R obs al
  | .priv1 => .ctrlPriv1R obs al
  | .priv2 => .ctrlPriv2R obs al
  | .pstart0 => .ctrlPstart0R obs al
  | .pstart1 => .ctrlPstart1R obs al
  | .pstart2 => .ctrlPstart2R obs al
  | .pend0 => .ctrlPend0R obs al
  | .pend1 => .ctrlPend1R obs al
  | .pend2 => .ctrlPend2R obs al
  | .misc => .ctrlMiscR obs al
  | .stack0 => .ctrlStack0R obs al
  | .stack1 => .ctrlStack1R obs al
  | .stack2 => .ctrlStack2R obs al
  | .pstatus => .ctrlPstatusR obs al
  | .pack => .ctrlPackR obs al

/-- The write row of a named control register (30_encoding.md R68). -/
def ctrlWriteInstr (obs : Bool) (al : BitVec 5) (v : Byte) : CtrlReg → Instr
  | .reset => .ctrlResetW obs al v
  | .speed => .ctrlSpeedW obs al v
  | .battStatus => .ctrlBattStatusW obs al v
  | .devtype => .ctrlDevtypeW obs al v
  | .powerMode => .ctrlPowerModeW obs al v
  | .battHs => .ctrlBattHsW obs al v
  | .charge => .ctrlChargeW obs al v
  | .shutdown => .ctrlShutdownW obs al v
  | .usbMirror => .ctrlUsbMirrorW obs al v
  | .priv0 => .ctrlPriv0W obs al v
  | .priv1 => .ctrlPriv1W obs al v
  | .priv2 => .ctrlPriv2W obs al v
  | .pstart0 => .ctrlPstart0W obs al v
  | .pstart1 => .ctrlPstart1W obs al v
  | .pstart2 => .ctrlPstart2W obs al v
  | .pend0 => .ctrlPend0W obs al v
  | .pend1 => .ctrlPend1W obs al v
  | .pend2 => .ctrlPend2W obs al v
  | .misc => .ctrlMiscW obs al v
  | .stack0 => .ctrlStack0W obs al v
  | .stack1 => .ctrlStack1W obs al v
  | .stack2 => .ctrlStack2W obs al v
  | .pstatus => .ctrlPstatusW obs al v
  | .pack => .ctrlPackW obs al v

/-- The read row of a named USB register (30_encoding.md R69). -/
def usbReadInstr (obs : Bool) (al : BitVec 3) (lane : BitVec 2) : UsbReg → Instr
  | .usbsts => .usbUsbstsR obs al lane
  | .usbintr => .usbUsbintrR obs al lane
  | .otgisr => .usbOtgisrR obs al lane
  | .otgier => .usbOtgierR obs al lane
  | .gisr => .usbGisrR obs al lane
  | .gmir => .usbGmirR obs al lane
  | .dcfesr => .usbDcfesrR obs al lane
  | .dmigr => .usbDmigrR obs al lane
  | .dmisg0 => .usbDmisg0R obs al lane
  | .dmisg1 => .usbDmisg1R obs al lane
  | .dmisg2 => .usbDmisg2R obs al lane
  | .digr => .usbDigrR obs al lane
  | .disg0 => .usbDisg0R obs al lane
  | .disg1 => .usbDisg1R obs al lane
  | .disg2 => .usbDisg2R obs al lane
  | .cxport => .usbCxportR obs al lane

/-- The write row of a named USB register (30_encoding.md R69). -/
def usbWriteInstr (obs : Bool) (al : BitVec 3) (lane : BitVec 2) (v : Byte) : UsbReg → Instr
  | .usbsts => .usbUsbstsW obs al lane v
  | .usbintr => .usbUsbintrW obs al lane v
  | .otgisr => .usbOtgisrW obs al lane v
  | .otgier => .usbOtgierW obs al lane v
  | .gisr => .usbGisrW obs al lane v
  | .gmir => .usbGmirW obs al lane v
  | .dcfesr => .usbDcfesrW obs al lane v
  | .dmigr => .usbDmigrW obs al lane v
  | .dmisg0 => .usbDmisg0W obs al lane v
  | .dmisg1 => .usbDmisg1W obs al lane v
  | .dmisg2 => .usbDmisg2W obs al lane v
  | .digr => .usbDigrW obs al lane v
  | .disg0 => .usbDisg0W obs al lane v
  | .disg1 => .usbDisg1W obs al lane v
  | .disg2 => .usbDisg2W obs al lane v
  | .cxport => .usbCxportW obs al lane v

/-- The rows of the control range: the named register at the offset, else RAW (30_encoding.md R67, R68). -/
def decodeCtrl (obs wr : Bool) (al : BitVec 5) (off : BitVec 7) (v : Byte) : Instr :=
  match ctrlRegAt off, wr with
  | some r, false => ctrlReadInstr obs al r
  | some r, true => ctrlWriteInstr obs al v r
  | none, false => .ctrlRawR obs al off
  | none, true => .ctrlRawW obs al off v

/-- The rows of the USB range: the named register that holds the offset, else RAW (30_encoding.md R67, R69). -/
def decodeUsb (obs wr : Bool) (al : BitVec 3) (off : BitVec 9) (v : Byte) : Instr :=
  match usbRegAt off, wr with
  | some r, false => usbReadInstr obs al (off.extractLsb' 0 2) r
  | some r, true => usbWriteInstr obs al (off.extractLsb' 0 2) v r
  | none, false => .usbRawR obs al off
  | none, true => .usbRawW obs al off v

/-- The rows of the other ranges (30_encoding.md R70). -/
def decodeExt (obs wr : Bool) (k : RangeNo) (l : Offset) (v : Byte) : Instr :=
  if wr then .extW obs k l v else .extR obs k l

/-- The operation of an access to `addr`, by the address's range and offset (30_encoding.md R61, R67 to R70): `wr` is the
kind, `v` the data byte. -/
def decodeAccess (obs wr : Bool) (addr : Addr) (v : Byte) : Instr :=
  if rangeOf addr = Config.ctrlRange then decodeCtrl obs wr (addr.extractLsb' 7 5) (addr.extractLsb' 0 7) v
  else if rangeOf addr = Config.usbRange then decodeUsb obs wr (addr.extractLsb' 9 3) (addr.extractLsb' 0 9) v
  else decodeExt obs wr (rangeOf addr) (addr.extractLsb' 0 12) v

/-- A PORT word's operation (30_encoding.md R64): bit 25 is `I`, bit 24 `W`, bits 23:8 the address, bits 7:0 the data
byte. -/
def decodePort (t : Word32) : Instr :=
  decodeAccess (!t.getLsbD 25) (t.getLsbD 24) (t.extractLsb' 8 16) (t.extractLsb' 0 8)

/-! ### SB words -/

/-- The operation number of a side-band operation (30_encoding.md R71). -/
def sbCode : SbOp → BitVec 7
  | .coldInit => 0x01#7
  | .globalReset => 0x02#7
  | .usbReset => 0x03#7
  | .privCheck => 0x04#7
  | .latchViolation => 0x05#7
  | .setBatteryLevel => 0x06#7
  | .setCharging => 0x07#7
  | .setDebugConfig => 0x08#7
  | .usbHostInt => 0x09#7
  | .usbOtgInt => 0x0A#7
  | .usbGrp0Int => 0x0B#7
  | .usbGrp1Int => 0x0C#7
  | .usbGrp2Int => 0x0D#7
  | .usbSetup => 0x0E#7
  | .usbQueueSend => 0x0F#7
  | .usbServeIn => 0x10#7
  | .usbStatusSummary => 0x11#7
  | .snapshotSave => 0x12#7
  | .snapshotRestore => 0x13#7
  | .powerState => 0x14#7

/-- The side-band operations in the order of the map. -/
def sbOps : List SbOp :=
  [.coldInit, .globalReset, .usbReset, .privCheck, .latchViolation, .setBatteryLevel,
   .setCharging, .setDebugConfig, .usbHostInt, .usbOtgInt, .usbGrp0Int, .usbGrp1Int,
   .usbGrp2Int, .usbSetup, .usbQueueSend, .usbServeIn, .usbStatusSummary, .snapshotSave,
   .snapshotRestore, .powerState]

/-- The side-band operation with number `c`, if there is one (30_encoding.md R71, R72). -/
def sbOpAt (c : BitVec 7) : Option SbOp := sbOps.find? (fun p => sbCode p == c)

/-- The type of an operand. -/
def operandType : Operand → OperandType
  | .u8 _ => .u8
  | .u16 _ => .u16
  | .u24 _ => .u24
  | .u32 _ => .u32
  | .nat _ => .nat
  | .bool _ => .bool
  | .bytes _ => .bytes
  | .ptr _ => .ptr
  | .debugConfig _ => .debugConfig
  | .snapshot _ => .snapshot

/-- The operand types of a side-band operation (30_encoding.md R71). -/
def sbTypes : SbOp → List OperandType
  | .coldInit => []
  | .globalReset => []
  | .usbReset => []
  | .privCheck => [.u24]
  | .latchViolation => [.u8]
  | .setBatteryLevel => [.nat]
  | .setCharging => [.bool]
  | .setDebugConfig => [.debugConfig]
  | .usbHostInt => [.u8]
  | .usbOtgInt => [.u32]
  | .usbGrp0Int => [.u8]
  | .usbGrp1Int => [.u32]
  | .usbGrp2Int => [.u16]
  | .usbSetup => [.bytes]
  | .usbQueueSend => [.ptr, .nat]
  | .usbServeIn => []
  | .usbStatusSummary => []
  | .snapshotSave => []
  | .snapshotRestore => [.snapshot]
  | .powerState => []

/-- An operand list of the right types gives an operation, any other is refused (30_encoding.md R72). -/
def wellTyped (o : Option Instr) : Except DecodeError Instr :=
  match o with
  | some i => .ok i
  | none => .error .mistypedOperands

/-- No operand. -/
def takeNone (i : Instr) : List Operand → Option Instr
  | [] => some i
  | _ => none

/-- One `u8`. -/
def takeU8 (f : Byte → Instr) : List Operand → Option Instr
  | [.u8 v] => some (f v)
  | _ => none

/-- One `u16`. -/
def takeU16 (f : BitVec 16 → Instr) : List Operand → Option Instr
  | [.u16 v] => some (f v)
  | _ => none

/-- One `u24`. -/
def takeU24 (f : Word24 → Instr) : List Operand → Option Instr
  | [.u24 v] => some (f v)
  | _ => none

/-- One `u32`. -/
def takeU32 (f : Word32 → Instr) : List Operand → Option Instr
  | [.u32 v] => some (f v)
  | _ => none

/-- One natural number. -/
def takeNat : List Operand → Option Nat
  | [.nat n] => some n
  | _ => none

/-- One boolean. -/
def takeBool (f : Bool → Instr) : List Operand → Option Instr
  | [.bool b] => some (f b)
  | _ => none

/-- One list of bytes. -/
def takeBytes (f : List Byte → Instr) : List Operand → Option Instr
  | [.bytes l] => some (f l)
  | _ => none

/-- A position and a natural number. -/
def takeView (f : HostPtr → Nat → Instr) : List Operand → Option Instr
  | [.ptr p, .nat n] => some (f p n)
  | _ => none

/-- One debugger configuration in canonical form (DESIGN CHOICE log 16). -/
def takeDebugConfig (f : DebugConfig → Instr) : List Operand → Option Instr
  | [.debugConfig cfg] => if DebugConfig.wf cfg then some (f cfg) else none
  | _ => none

/-- One snapshot record, in canonical form where it has this spec's layout (DESIGN CHOICE log 16). -/
def takeSnapshot (f : Snapshot → Instr) : List Operand → Option Instr
  | [.snapshot snap] => if Snapshot.wf snap then some (f snap) else none
  | _ => none

/-- The operand of SB.SET_BATTERY_LEVEL; a number of 6 or more is refused (30_encoding.md R72). -/
def decodeLevel (l : List Operand) : Except DecodeError Instr :=
  match takeNat l with
  | some n =>
    match levelOfNat n with
    | some level => .ok (.sbSetBatteryLevel level)
    | none => .error .reservedBatteryLevel
  | none => .error .mistypedOperands

/-- A side-band operation with its typed operands (30_encoding.md R66, R71); an operand list of other types is
refused, a structured operand that is not in its canonical form among them (R72; DESIGN CHOICE log 16). -/
def decodeSb (p : SbOp) (l : List Operand) : Except DecodeError Instr :=
  match p with
  | .coldInit => wellTyped (takeNone .sbColdInit l)
  | .globalReset => wellTyped (takeNone .sbGlobalReset l)
  | .usbReset => wellTyped (takeNone .sbUsbReset l)
  | .privCheck => wellTyped (takeU24 .sbPrivCheck l)
  | .latchViolation => wellTyped (takeU8 .sbLatchViolation l)
  | .setBatteryLevel => decodeLevel l
  | .setCharging => wellTyped (takeBool .sbSetCharging l)
  | .setDebugConfig => wellTyped (takeDebugConfig .sbSetDebugConfig l)
  | .usbHostInt => wellTyped (takeU8 .sbUsbHostInt l)
  | .usbOtgInt => wellTyped (takeU32 .sbUsbOtgInt l)
  | .usbGrp0Int => wellTyped (takeU8 .sbUsbGrp0Int l)
  | .usbGrp1Int => wellTyped (takeU32 .sbUsbGrp1Int l)
  | .usbGrp2Int => wellTyped (takeU16 .sbUsbGrp2Int l)
  | .usbSetup => wellTyped (takeBytes .sbUsbSetup l)
  | .usbQueueSend => wellTyped (takeView .sbUsbQueueSend l)
  | .usbServeIn => wellTyped (takeNone .sbUsbServeIn l)
  | .usbStatusSummary => wellTyped (takeNone .sbUsbStatusSummary l)
  | .snapshotSave => wellTyped (takeNone .sbSnapshotSave l)
  | .snapshotRestore => wellTyped (takeSnapshot .sbSnapshotRestore l)
  | .powerState => wellTyped (takeNone .sbPowerState l)

/-! ### The decoder -/

/-- Decode one transaction: bit 31 selects the format (30_encoding.md R63 to R65); a reserved word is refused (R72).
A PORT word has no operand list, so what stands beside one is not looked at (DESIGN CHOICE log 16). -/
def decode (t : Transaction) : Except DecodeError Instr :=
  if t.word.getLsbD 31 then
    if t.word.extractLsb' 0 24 = 0#24 then
      match sbOpAt (t.word.extractLsb' 24 7) with
      | some p => decodeSb p t.operands
      | none => .error .reservedSideBandOp
    else .error .reservedSideBandBits
  else if t.word.extractLsb' 26 5 = 0#5 then .ok (decodePort t.word)
  else .error .reservedPortBits

/-! ### The encoder -/

/-- A PORT word (30_encoding.md R64, R73). -/
def portWord (obs wr : Bool) (addr : Addr) (v : Byte) : Word32 :=
  0#6 ++ BitVec.ofBool (!obs) ++ BitVec.ofBool wr ++ addr ++ v

/-- A PORT transaction; a read is assembled with data byte 0x00 (30_encoding.md R73). -/
def portTransaction (obs wr : Bool) (addr : Addr) (v : Byte) : Transaction := ⟨portWord obs wr addr v, []⟩

/-- A side-band transaction (30_encoding.md R65, R73). -/
def sbTransaction (p : SbOp) (operands : List Operand) : Transaction := ⟨1#1 ++ sbCode p ++ 0#24, operands⟩

/-- The address of a named control register under alias `al`. -/
def ctrlRegAddr (r : CtrlReg) (al : BitVec 5) : Addr := ctrlAddr (ctrlOffset r) al

/-- The address of a byte lane of a named USB register under alias `al`. -/
def usbRegAddr (r : UsbReg) (lane : BitVec 2) (al : BitVec 3) : Addr := usbAddr (usbLane r lane) al

/-- The transaction of an operation (30_encoding.md R64, R65, R68 to R71). -/
def encode : Instr → Transaction
  | .ctrlResetR obs al => portTransaction obs false (ctrlRegAddr .reset al) 0x00#8
  | .ctrlResetW obs al v => portTransaction obs true (ctrlRegAddr .reset al) v
  | .ctrlSpeedR obs al => portTransaction obs false (ctrlRegAddr .speed al) 0x00#8
  | .ctrlSpeedW obs al v => portTransaction obs true (ctrlRegAddr .speed al) v
  | .ctrlBattStatusR obs al => portTransaction obs false (ctrlRegAddr .battStatus al) 0x00#8
  | .ctrlBattStatusW obs al v => portTransaction obs true (ctrlRegAddr .battStatus al) v
  | .ctrlDevtypeR obs al => portTransaction obs false (ctrlRegAddr .devtype al) 0x00#8
  | .ctrlDevtypeW obs al v => portTransaction obs true (ctrlRegAddr .devtype al) v
  | .ctrlPowerModeR obs al => portTransaction obs false (ctrlRegAddr .powerMode al) 0x00#8
  | .ctrlPowerModeW obs al v => portTransaction obs true (ctrlRegAddr .powerMode al) v
  | .ctrlBattHsR obs al => portTransaction obs false (ctrlRegAddr .battHs al) 0x00#8
  | .ctrlBattHsW obs al v => portTransaction obs true (ctrlRegAddr .battHs al) v
  | .ctrlChargeR obs al => portTransaction obs false (ctrlRegAddr .charge al) 0x00#8
  | .ctrlChargeW obs al v => portTransaction obs true (ctrlRegAddr .charge al) v
  | .ctrlShutdownR obs al => portTransaction obs false (ctrlRegAddr .shutdown al) 0x00#8
  | .ctrlShutdownW obs al v => portTransaction obs true (ctrlRegAddr .shutdown al) v
  | .ctrlUsbMirrorR obs al => portTransaction obs false (ctrlRegAddr .usbMirror al) 0x00#8
  | .ctrlUsbMirrorW obs al v => portTransaction obs true (ctrlRegAddr .usbMirror al) v
  | .ctrlPriv0R obs al => portTransaction obs false (ctrlRegAddr .priv0 al) 0x00#8
  | .ctrlPriv0W obs al v => portTransaction obs true (ctrlRegAddr .priv0 al) v
  | .ctrlPriv1R obs al => portTransaction obs false (ctrlRegAddr .priv1 al) 0x00#8
  | .ctrlPriv1W obs al v => portTransaction obs true (ctrlRegAddr .priv1 al) v
  | .ctrlPriv2R obs al => portTransaction obs false (ctrlRegAddr .priv2 al) 0x00#8
  | .ctrlPriv2W obs al v => portTransaction obs true (ctrlRegAddr .priv2 al) v
  | .ctrlPstart0R obs al => portTransaction obs false (ctrlRegAddr .pstart0 al) 0x00#8
  | .ctrlPstart0W obs al v => portTransaction obs true (ctrlRegAddr .pstart0 al) v
  | .ctrlPstart1R obs al => portTransaction obs false (ctrlRegAddr .pstart1 al) 0x00#8
  | .ctrlPstart1W obs al v => portTransaction obs true (ctrlRegAddr .pstart1 al) v
  | .ctrlPstart2R obs al => portTransaction obs false (ctrlRegAddr .pstart2 al) 0x00#8
  | .ctrlPstart2W obs al v => portTransaction obs true (ctrlRegAddr .pstart2 al) v
  | .ctrlPend0R obs al => portTransaction obs false (ctrlRegAddr .pend0 al) 0x00#8
  | .ctrlPend0W obs al v => portTransaction obs true (ctrlRegAddr .pend0 al) v
  | .ctrlPend1R obs al => portTransaction obs false (ctrlRegAddr .pend1 al) 0x00#8
  | .ctrlPend1W obs al v => portTransaction obs true (ctrlRegAddr .pend1 al) v
  | .ctrlPend2R obs al => portTransaction obs false (ctrlRegAddr .pend2 al) 0x00#8
  | .ctrlPend2W obs al v => portTransaction obs true (ctrlRegAddr .pend2 al) v
  | .ctrlMiscR obs al => portTransaction obs false (ctrlRegAddr .misc al) 0x00#8
  | .ctrlMiscW obs al v => portTransaction obs true (ctrlRegAddr .misc al) v
  | .ctrlStack0R obs al => portTransaction obs false (ctrlRegAddr .stack0 al) 0x00#8
  | .ctrlStack0W obs al v => portTransaction obs true (ctrlRegAddr .stack0 al) v
  | .ctrlStack1R obs al => portTransaction obs false (ctrlRegAddr .stack1 al) 0x00#8
  | .ctrlStack1W obs al v => portTransaction obs true (ctrlRegAddr .stack1 al) v
  | .ctrlStack2R obs al => portTransaction obs false (ctrlRegAddr .stack2 al) 0x00#8
  | .ctrlStack2W obs al v => portTransaction obs true (ctrlRegAddr .stack2 al) v
  | .ctrlPstatusR obs al => portTransaction obs false (ctrlRegAddr .pstatus al) 0x00#8
  | .ctrlPstatusW obs al v => portTransaction obs true (ctrlRegAddr .pstatus al) v
  | .ctrlPackR obs al => portTransaction obs false (ctrlRegAddr .pack al) 0x00#8
  | .ctrlPackW obs al v => portTransaction obs true (ctrlRegAddr .pack al) v
  | .ctrlRawR obs al off => portTransaction obs false (ctrlAddr off al) 0x00#8
  | .ctrlRawW obs al off v => portTransaction obs true (ctrlAddr off al) v
  | .usbUsbstsR obs al lane => portTransaction obs false (usbRegAddr .usbsts lane al) 0x00#8
  | .usbUsbstsW obs al lane v => portTransaction obs true (usbRegAddr .usbsts lane al) v
  | .usbUsbintrR obs al lane => portTransaction obs false (usbRegAddr .usbintr lane al) 0x00#8
  | .usbUsbintrW obs al lane v => portTransaction obs true (usbRegAddr .usbintr lane al) v
  | .usbOtgisrR obs al lane => portTransaction obs false (usbRegAddr .otgisr lane al) 0x00#8
  | .usbOtgisrW obs al lane v => portTransaction obs true (usbRegAddr .otgisr lane al) v
  | .usbOtgierR obs al lane => portTransaction obs false (usbRegAddr .otgier lane al) 0x00#8
  | .usbOtgierW obs al lane v => portTransaction obs true (usbRegAddr .otgier lane al) v
  | .usbGisrR obs al lane => portTransaction obs false (usbRegAddr .gisr lane al) 0x00#8
  | .usbGisrW obs al lane v => portTransaction obs true (usbRegAddr .gisr lane al) v
  | .usbGmirR obs al lane => portTransaction obs false (usbRegAddr .gmir lane al) 0x00#8
  | .usbGmirW obs al lane v => portTransaction obs true (usbRegAddr .gmir lane al) v
  | .usbDcfesrR obs al lane => portTransaction obs false (usbRegAddr .dcfesr lane al) 0x00#8
  | .usbDcfesrW obs al lane v => portTransaction obs true (usbRegAddr .dcfesr lane al) v
  | .usbDmigrR obs al lane => portTransaction obs false (usbRegAddr .dmigr lane al) 0x00#8
  | .usbDmigrW obs al lane v => portTransaction obs true (usbRegAddr .dmigr lane al) v
  | .usbDmisg0R obs al lane => portTransaction obs false (usbRegAddr .dmisg0 lane al) 0x00#8
  | .usbDmisg0W obs al lane v => portTransaction obs true (usbRegAddr .dmisg0 lane al) v
  | .usbDmisg1R obs al lane => portTransaction obs false (usbRegAddr .dmisg1 lane al) 0x00#8
  | .usbDmisg1W obs al lane v => portTransaction obs true (usbRegAddr .dmisg1 lane al) v
  | .usbDmisg2R obs al lane => portTransaction obs false (usbRegAddr .dmisg2 lane al) 0x00#8
  | .usbDmisg2W obs al lane v => portTransaction obs true (usbRegAddr .dmisg2 lane al) v
  | .usbDigrR obs al lane => portTransaction obs false (usbRegAddr .digr lane al) 0x00#8
  | .usbDigrW obs al lane v => portTransaction obs true (usbRegAddr .digr lane al) v
  | .usbDisg0R obs al lane => portTransaction obs false (usbRegAddr .disg0 lane al) 0x00#8
  | .usbDisg0W obs al lane v => portTransaction obs true (usbRegAddr .disg0 lane al) v
  | .usbDisg1R obs al lane => portTransaction obs false (usbRegAddr .disg1 lane al) 0x00#8
  | .usbDisg1W obs al lane v => portTransaction obs true (usbRegAddr .disg1 lane al) v
  | .usbDisg2R obs al lane => portTransaction obs false (usbRegAddr .disg2 lane al) 0x00#8
  | .usbDisg2W obs al lane v => portTransaction obs true (usbRegAddr .disg2 lane al) v
  | .usbCxportR obs al lane => portTransaction obs false (usbRegAddr .cxport lane al) 0x00#8
  | .usbCxportW obs al lane v => portTransaction obs true (usbRegAddr .cxport lane al) v
  | .usbRawR obs al off => portTransaction obs false (usbAddr off al) 0x00#8
  | .usbRawW obs al off v => portTransaction obs true (usbAddr off al) v
  | .extR obs k l => portTransaction obs false (extAddr k l) 0x00#8
  | .extW obs k l v => portTransaction obs true (extAddr k l) v
  | .sbColdInit => sbTransaction .coldInit []
  | .sbGlobalReset => sbTransaction .globalReset []
  | .sbUsbReset => sbTransaction .usbReset []
  | .sbPrivCheck pc => sbTransaction .privCheck [.u24 pc]
  | .sbLatchViolation bits => sbTransaction .latchViolation [.u8 bits]
  | .sbSetBatteryLevel level => sbTransaction .setBatteryLevel [.nat (levelToNat level)]
  | .sbSetCharging b => sbTransaction .setCharging [.bool b]
  | .sbSetDebugConfig cfg => sbTransaction .setDebugConfig [.debugConfig cfg]
  | .sbUsbHostInt bits => sbTransaction .usbHostInt [.u8 bits]
  | .sbUsbOtgInt bits => sbTransaction .usbOtgInt [.u32 bits]
  | .sbUsbGrp0Int bits => sbTransaction .usbGrp0Int [.u8 bits]
  | .sbUsbGrp1Int bits => sbTransaction .usbGrp1Int [.u32 bits]
  | .sbUsbGrp2Int bits => sbTransaction .usbGrp2Int [.u16 bits]
  | .sbUsbSetup bytes => sbTransaction .usbSetup [.bytes bytes]
  | .sbUsbQueueSend buf len => sbTransaction .usbQueueSend [.ptr buf, .nat len]
  | .sbUsbServeIn => sbTransaction .usbServeIn []
  | .sbUsbStatusSummary => sbTransaction .usbStatusSummary []
  | .sbSnapshotSave => sbTransaction .snapshotSave []
  | .sbSnapshotRestore snap => sbTransaction .snapshotRestore [.snapshot snap]
  | .sbPowerState => sbTransaction .powerState []

/-! ### The opcode table -/

/-- A row of spec/opcode_table.json: its mnemonic, its mask and the pattern it matches. -/
structure OpcodeRow where
  mnemonic : String
  mask : Word32
  pattern : Word32
  deriving DecidableEq, Repr

/-- The rows of the ControlDevice in the table's order. -/
def ctrlRows : List OpcodeRow :=
  [⟨"CTRL.RESET.R", 0xFDF07F00#32, 0x00000000#32⟩,
   ⟨"CTRL.RESET.W", 0xFDF07F00#32, 0x01000000#32⟩,
   ⟨"CTRL.SPEED.R", 0xFDF07F00#32, 0x00000100#32⟩,
   ⟨"CTRL.SPEED.W", 0xFDF07F00#32, 0x01000100#32⟩,
   ⟨"CTRL.BATT_STATUS.R", 0xFDF07F00#32, 0x00000200#32⟩,
   ⟨"CTRL.BATT_STATUS.W", 0xFDF07F00#32, 0x01000200#32⟩,
   ⟨"CTRL.DEVTYPE.R", 0xFDF07F00#32, 0x00000300#32⟩,
   ⟨"CTRL.DEVTYPE.W", 0xFDF07F00#32, 0x01000300#32⟩,
   ⟨"CTRL.POWER_MODE.R", 0xFDF07F00#32, 0x00000700#32⟩,
   ⟨"CTRL.POWER_MODE.W", 0xFDF07F00#32, 0x01000700#32⟩,
   ⟨"CTRL.BATT_HS.R", 0xFDF07F00#32, 0x00000900#32⟩,
   ⟨"CTRL.BATT_HS.W", 0xFDF07F00#32, 0x01000900#32⟩,
   ⟨"CTRL.CHARGE.R", 0xFDF07F00#32, 0x00000A00#32⟩,
   ⟨"CTRL.CHARGE.W", 0xFDF07F00#32, 0x01000A00#32⟩,
   ⟨"CTRL.SHUTDOWN.R", 0xFDF07F00#32, 0x00000C00#32⟩,
   ⟨"CTRL.SHUTDOWN.W", 0xFDF07F00#32, 0x01000C00#32⟩,
   ⟨"CTRL.USB_MIRROR.R", 0xFDF07F00#32, 0x00000F00#32⟩,
   ⟨"CTRL.USB_MIRROR.W", 0xFDF07F00#32, 0x01000F00#32⟩,
   ⟨"CTRL.PRIV0.R", 0xFDF07F00#32, 0x00001D00#32⟩,
   ⟨"CTRL.PRIV0.W", 0xFDF07F00#32, 0x01001D00#32⟩,
   ⟨"CTRL.PRIV1.R", 0xFDF07F00#32, 0x00001E00#32⟩,
   ⟨"CTRL.PRIV1.W", 0xFDF07F00#32, 0x01001E00#32⟩,
   ⟨"CTRL.PRIV2.R", 0xFDF07F00#32, 0x00001F00#32⟩,
   ⟨"CTRL.PRIV2.W", 0xFDF07F00#32, 0x01001F00#32⟩,
   ⟨"CTRL.PSTART0.R", 0xFDF07F00#32, 0x00002000#32⟩,
   ⟨"CTRL.PSTART0.W", 0xFDF07F00#32, 0x01002000#32⟩,
   ⟨"CTRL.PSTART1.R", 0xFDF07F00#32, 0x00002100#32⟩,
   ⟨"CTRL.PSTART1.W", 0xFDF07F00#32, 0x01002100#32⟩,
   ⟨"CTRL.PSTART2.R", 0xFDF07F00#32, 0x00002200#32⟩,
   ⟨"CTRL.PSTART2.W", 0xFDF07F00#32, 0x01002200#32⟩,
   ⟨"CTRL.PEND0.R", 0xFDF07F00#32, 0x00002300#32⟩,
   ⟨"CTRL.PEND0.W", 0xFDF07F00#32, 0x01002300#32⟩,
   ⟨"CTRL.PEND1.R", 0xFDF07F00#32, 0x00002400#32⟩,
   ⟨"CTRL.PEND1.W", 0xFDF07F00#32, 0x01002400#32⟩,
   ⟨"CTRL.PEND2.R", 0xFDF07F00#32, 0x00002500#32⟩,
   ⟨"CTRL.PEND2.W", 0xFDF07F00#32, 0x01002500#32⟩,
   ⟨"CTRL.MISC.R", 0xFDF07F00#32, 0x00002800#32⟩,
   ⟨"CTRL.MISC.W", 0xFDF07F00#32, 0x01002800#32⟩,
   ⟨"CTRL.STACK0.R", 0xFDF07F00#32, 0x00003A00#32⟩,
   ⟨"CTRL.STACK0.W", 0xFDF07F00#32, 0x01003A00#32⟩,
   ⟨"CTRL.STACK1.R", 0xFDF07F00#32, 0x00003B00#32⟩,
   ⟨"CTRL.STACK1.W", 0xFDF07F00#32, 0x01003B00#32⟩,
   ⟨"CTRL.STACK2.R", 0xFDF07F00#32, 0x00003C00#32⟩,
   ⟨"CTRL.STACK2.W", 0xFDF07F00#32, 0x01003C00#32⟩,
   ⟨"CTRL.PSTATUS.R", 0xFDF07F00#32, 0x00003D00#32⟩,
   ⟨"CTRL.PSTATUS.W", 0xFDF07F00#32, 0x01003D00#32⟩,
   ⟨"CTRL.PACK.R", 0xFDF07F00#32, 0x00003E00#32⟩,
   ⟨"CTRL.PACK.W", 0xFDF07F00#32, 0x01003E00#32⟩,
   ⟨"CTRL.RAW.R", 0xFDF00000#32, 0x00000000#32⟩,
   ⟨"CTRL.RAW.W", 0xFDF00000#32, 0x01000000#32⟩]

/-- The rows of the USBDeviceController in the table's order. -/
def usbRows : List OpcodeRow :=
  [⟨"USB.USBSTS.R", 0xFDF1FC00#32, 0x00301400#32⟩,
   ⟨"USB.USBSTS.W", 0xFDF1FC00#32, 0x01301400#32⟩,
   ⟨"USB.USBINTR.R", 0xFDF1FC00#32, 0x00301800#32⟩,
   ⟨"USB.USBINTR.W", 0xFDF1FC00#32, 0x01301800#32⟩,
   ⟨"USB.OTGISR.R", 0xFDF1FC00#32, 0x00308400#32⟩,
   ⟨"USB.OTGISR.W", 0xFDF1FC00#32, 0x01308400#32⟩,
   ⟨"USB.OTGIER.R", 0xFDF1FC00#32, 0x00308800#32⟩,
   ⟨"USB.OTGIER.W", 0xFDF1FC00#32, 0x01308800#32⟩,
   ⟨"USB.GISR.R", 0xFDF1FC00#32, 0x0030C000#32⟩,
   ⟨"USB.GISR.W", 0xFDF1FC00#32, 0x0130C000#32⟩,
   ⟨"USB.GMIR.R", 0xFDF1FC00#32, 0x0030C400#32⟩,
   ⟨"USB.GMIR.W", 0xFDF1FC00#32, 0x0130C400#32⟩,
   ⟨"USB.DCFESR.R", 0xFDF1FC00#32, 0x00312000#32⟩,
   ⟨"USB.DCFESR.W", 0xFDF1FC00#32, 0x01312000#32⟩,
   ⟨"USB.DMIGR.R", 0xFDF1FC00#32, 0x00313000#32⟩,
   ⟨"USB.DMIGR.W", 0xFDF1FC00#32, 0x01313000#32⟩,
   ⟨"USB.DMISG0.R", 0xFDF1FC00#32, 0x00313400#32⟩,
   ⟨"USB.DMISG0.W", 0xFDF1FC00#32, 0x01313400#32⟩,
   ⟨"USB.DMISG1.R", 0xFDF1FC00#32, 0x00313800#32⟩,
   ⟨"USB.DMISG1.W", 0xFDF1FC00#32, 0x01313800#32⟩,
   ⟨"USB.DMISG2.R", 0xFDF1FC00#32, 0x00313C00#32⟩,
   ⟨"USB.DMISG2.W", 0xFDF1FC00#32, 0x01313C00#32⟩,
   ⟨"USB.DIGR.R", 0xFDF1FC00#32, 0x00314000#32⟩,
   ⟨"USB.DIGR.W", 0xFDF1FC00#32, 0x01314000#32⟩,
   ⟨"USB.DISG0.R", 0xFDF1FC00#32, 0x00314400#32⟩,
   ⟨"USB.DISG0.W", 0xFDF1FC00#32, 0x01314400#32⟩,
   ⟨"USB.DISG1.R", 0xFDF1FC00#32, 0x00314800#32⟩,
   ⟨"USB.DISG1.W", 0xFDF1FC00#32, 0x01314800#32⟩,
   ⟨"USB.DISG2.R", 0xFDF1FC00#32, 0x00314C00#32⟩,
   ⟨"USB.DISG2.W", 0xFDF1FC00#32, 0x01314C00#32⟩,
   ⟨"USB.CXPORT.R", 0xFDF1FC00#32, 0x0031D000#32⟩,
   ⟨"USB.CXPORT.W", 0xFDF1FC00#32, 0x0131D000#32⟩,
   ⟨"USB.RAW.R", 0xFDF00000#32, 0x00300000#32⟩,
   ⟨"USB.RAW.W", 0xFDF00000#32, 0x01300000#32⟩]

/-- The rows of the external ranges in the table's order. -/
def extRows : List OpcodeRow :=
  [⟨"EXT.R", 0xFD000000#32, 0x00000000#32⟩,
   ⟨"EXT.W", 0xFD000000#32, 0x01000000#32⟩]

/-- The rows of the side band in the table's order. -/
def sbRows : List OpcodeRow :=
  [⟨"SB.COLD_INIT", 0xFFFFFFFF#32, 0x81000000#32⟩,
   ⟨"SB.GLOBAL_RESET", 0xFFFFFFFF#32, 0x82000000#32⟩,
   ⟨"SB.USB_RESET", 0xFFFFFFFF#32, 0x83000000#32⟩,
   ⟨"SB.PRIV_CHECK", 0xFFFFFFFF#32, 0x84000000#32⟩,
   ⟨"SB.LATCH_VIOLATION", 0xFFFFFFFF#32, 0x85000000#32⟩,
   ⟨"SB.SET_BATTERY_LEVEL", 0xFFFFFFFF#32, 0x86000000#32⟩,
   ⟨"SB.SET_CHARGING", 0xFFFFFFFF#32, 0x87000000#32⟩,
   ⟨"SB.SET_DEBUG_CONFIG", 0xFFFFFFFF#32, 0x88000000#32⟩,
   ⟨"SB.USB_HOST_INT", 0xFFFFFFFF#32, 0x89000000#32⟩,
   ⟨"SB.USB_OTG_INT", 0xFFFFFFFF#32, 0x8A000000#32⟩,
   ⟨"SB.USB_GRP0_INT", 0xFFFFFFFF#32, 0x8B000000#32⟩,
   ⟨"SB.USB_GRP1_INT", 0xFFFFFFFF#32, 0x8C000000#32⟩,
   ⟨"SB.USB_GRP2_INT", 0xFFFFFFFF#32, 0x8D000000#32⟩,
   ⟨"SB.USB_SETUP", 0xFFFFFFFF#32, 0x8E000000#32⟩,
   ⟨"SB.USB_QUEUE_SEND", 0xFFFFFFFF#32, 0x8F000000#32⟩,
   ⟨"SB.USB_SERVE_IN", 0xFFFFFFFF#32, 0x90000000#32⟩,
   ⟨"SB.USB_STATUS_SUMMARY", 0xFFFFFFFF#32, 0x91000000#32⟩,
   ⟨"SB.SNAPSHOT_SAVE", 0xFFFFFFFF#32, 0x92000000#32⟩,
   ⟨"SB.SNAPSHOT_RESTORE", 0xFFFFFFFF#32, 0x93000000#32⟩,
   ⟨"SB.POWER_STATE", 0xFFFFFFFF#32, 0x94000000#32⟩]

/-- spec/opcode_table.json, in file order. -/
def opcodeTable : List OpcodeRow := ctrlRows ++ usbRows ++ extRows ++ sbRows

/-- The first row a word satisfies: the search of 30_encoding.md R67. -/
def firstRow (t : Word32) : Option OpcodeRow := opcodeTable.find? (fun r => t &&& r.mask == r.pattern)

/-- An operation's mnemonic in spec/opcode_table.json. -/
def Instr.mnemonic : Instr → String
  | .ctrlResetR _ _ => "CTRL.RESET.R"
  | .ctrlResetW _ _ _ => "CTRL.RESET.W"
  | .ctrlSpeedR _ _ => "CTRL.SPEED.R"
  | .ctrlSpeedW _ _ _ => "CTRL.SPEED.W"
  | .ctrlBattStatusR _ _ => "CTRL.BATT_STATUS.R"
  | .ctrlBattStatusW _ _ _ => "CTRL.BATT_STATUS.W"
  | .ctrlDevtypeR _ _ => "CTRL.DEVTYPE.R"
  | .ctrlDevtypeW _ _ _ => "CTRL.DEVTYPE.W"
  | .ctrlPowerModeR _ _ => "CTRL.POWER_MODE.R"
  | .ctrlPowerModeW _ _ _ => "CTRL.POWER_MODE.W"
  | .ctrlBattHsR _ _ => "CTRL.BATT_HS.R"
  | .ctrlBattHsW _ _ _ => "CTRL.BATT_HS.W"
  | .ctrlChargeR _ _ => "CTRL.CHARGE.R"
  | .ctrlChargeW _ _ _ => "CTRL.CHARGE.W"
  | .ctrlShutdownR _ _ => "CTRL.SHUTDOWN.R"
  | .ctrlShutdownW _ _ _ => "CTRL.SHUTDOWN.W"
  | .ctrlUsbMirrorR _ _ => "CTRL.USB_MIRROR.R"
  | .ctrlUsbMirrorW _ _ _ => "CTRL.USB_MIRROR.W"
  | .ctrlPriv0R _ _ => "CTRL.PRIV0.R"
  | .ctrlPriv0W _ _ _ => "CTRL.PRIV0.W"
  | .ctrlPriv1R _ _ => "CTRL.PRIV1.R"
  | .ctrlPriv1W _ _ _ => "CTRL.PRIV1.W"
  | .ctrlPriv2R _ _ => "CTRL.PRIV2.R"
  | .ctrlPriv2W _ _ _ => "CTRL.PRIV2.W"
  | .ctrlPstart0R _ _ => "CTRL.PSTART0.R"
  | .ctrlPstart0W _ _ _ => "CTRL.PSTART0.W"
  | .ctrlPstart1R _ _ => "CTRL.PSTART1.R"
  | .ctrlPstart1W _ _ _ => "CTRL.PSTART1.W"
  | .ctrlPstart2R _ _ => "CTRL.PSTART2.R"
  | .ctrlPstart2W _ _ _ => "CTRL.PSTART2.W"
  | .ctrlPend0R _ _ => "CTRL.PEND0.R"
  | .ctrlPend0W _ _ _ => "CTRL.PEND0.W"
  | .ctrlPend1R _ _ => "CTRL.PEND1.R"
  | .ctrlPend1W _ _ _ => "CTRL.PEND1.W"
  | .ctrlPend2R _ _ => "CTRL.PEND2.R"
  | .ctrlPend2W _ _ _ => "CTRL.PEND2.W"
  | .ctrlMiscR _ _ => "CTRL.MISC.R"
  | .ctrlMiscW _ _ _ => "CTRL.MISC.W"
  | .ctrlStack0R _ _ => "CTRL.STACK0.R"
  | .ctrlStack0W _ _ _ => "CTRL.STACK0.W"
  | .ctrlStack1R _ _ => "CTRL.STACK1.R"
  | .ctrlStack1W _ _ _ => "CTRL.STACK1.W"
  | .ctrlStack2R _ _ => "CTRL.STACK2.R"
  | .ctrlStack2W _ _ _ => "CTRL.STACK2.W"
  | .ctrlPstatusR _ _ => "CTRL.PSTATUS.R"
  | .ctrlPstatusW _ _ _ => "CTRL.PSTATUS.W"
  | .ctrlPackR _ _ => "CTRL.PACK.R"
  | .ctrlPackW _ _ _ => "CTRL.PACK.W"
  | .ctrlRawR _ _ _ => "CTRL.RAW.R"
  | .ctrlRawW _ _ _ _ => "CTRL.RAW.W"
  | .usbUsbstsR _ _ _ => "USB.USBSTS.R"
  | .usbUsbstsW _ _ _ _ => "USB.USBSTS.W"
  | .usbUsbintrR _ _ _ => "USB.USBINTR.R"
  | .usbUsbintrW _ _ _ _ => "USB.USBINTR.W"
  | .usbOtgisrR _ _ _ => "USB.OTGISR.R"
  | .usbOtgisrW _ _ _ _ => "USB.OTGISR.W"
  | .usbOtgierR _ _ _ => "USB.OTGIER.R"
  | .usbOtgierW _ _ _ _ => "USB.OTGIER.W"
  | .usbGisrR _ _ _ => "USB.GISR.R"
  | .usbGisrW _ _ _ _ => "USB.GISR.W"
  | .usbGmirR _ _ _ => "USB.GMIR.R"
  | .usbGmirW _ _ _ _ => "USB.GMIR.W"
  | .usbDcfesrR _ _ _ => "USB.DCFESR.R"
  | .usbDcfesrW _ _ _ _ => "USB.DCFESR.W"
  | .usbDmigrR _ _ _ => "USB.DMIGR.R"
  | .usbDmigrW _ _ _ _ => "USB.DMIGR.W"
  | .usbDmisg0R _ _ _ => "USB.DMISG0.R"
  | .usbDmisg0W _ _ _ _ => "USB.DMISG0.W"
  | .usbDmisg1R _ _ _ => "USB.DMISG1.R"
  | .usbDmisg1W _ _ _ _ => "USB.DMISG1.W"
  | .usbDmisg2R _ _ _ => "USB.DMISG2.R"
  | .usbDmisg2W _ _ _ _ => "USB.DMISG2.W"
  | .usbDigrR _ _ _ => "USB.DIGR.R"
  | .usbDigrW _ _ _ _ => "USB.DIGR.W"
  | .usbDisg0R _ _ _ => "USB.DISG0.R"
  | .usbDisg0W _ _ _ _ => "USB.DISG0.W"
  | .usbDisg1R _ _ _ => "USB.DISG1.R"
  | .usbDisg1W _ _ _ _ => "USB.DISG1.W"
  | .usbDisg2R _ _ _ => "USB.DISG2.R"
  | .usbDisg2W _ _ _ _ => "USB.DISG2.W"
  | .usbCxportR _ _ _ => "USB.CXPORT.R"
  | .usbCxportW _ _ _ _ => "USB.CXPORT.W"
  | .usbRawR _ _ _ => "USB.RAW.R"
  | .usbRawW _ _ _ _ => "USB.RAW.W"
  | .extR _ _ _ => "EXT.R"
  | .extW _ _ _ _ => "EXT.W"
  | .sbColdInit => "SB.COLD_INIT"
  | .sbGlobalReset => "SB.GLOBAL_RESET"
  | .sbUsbReset => "SB.USB_RESET"
  | .sbPrivCheck _ => "SB.PRIV_CHECK"
  | .sbLatchViolation _ => "SB.LATCH_VIOLATION"
  | .sbSetBatteryLevel _ => "SB.SET_BATTERY_LEVEL"
  | .sbSetCharging _ => "SB.SET_CHARGING"
  | .sbSetDebugConfig _ => "SB.SET_DEBUG_CONFIG"
  | .sbUsbHostInt _ => "SB.USB_HOST_INT"
  | .sbUsbOtgInt _ => "SB.USB_OTG_INT"
  | .sbUsbGrp0Int _ => "SB.USB_GRP0_INT"
  | .sbUsbGrp1Int _ => "SB.USB_GRP1_INT"
  | .sbUsbGrp2Int _ => "SB.USB_GRP2_INT"
  | .sbUsbSetup _ => "SB.USB_SETUP"
  | .sbUsbQueueSend _ _ => "SB.USB_QUEUE_SEND"
  | .sbUsbServeIn => "SB.USB_SERVE_IN"
  | .sbUsbStatusSummary => "SB.USB_STATUS_SUMMARY"
  | .sbSnapshotSave => "SB.SNAPSHOT_SAVE"
  | .sbSnapshotRestore _ => "SB.SNAPSHOT_RESTORE"
  | .sbPowerState => "SB.POWER_STATE"

/-! ### Table words -/

/-- The record of this spec's layout in which every field is zero: the operand "all zeros" of SB.SNAPSHOT_RESTORE. -/
def zeroSnapshot : Snapshot where
  layout := .thisSpec
  ctrl :=
    { ports := [], cpuSpeedCode := 0#5, batteryReadState := 0x00#8, batterySetLevel := .level0, batteryCharging := false,
      privilegedBoundary := 0#24, protectedStart := 0#24, protectedEnd := 0#24, stackLimit := 0#24,
      protectionStatus := 0#8, poweredOff := false }
  usb := UsbState.cleared

/-- The operand list of a side-band operation with every operand zero, false or empty (DESIGN CHOICE log 16). -/
def zeroOperands : SbOp → List Operand
  | .coldInit => []
  | .globalReset => []
  | .usbReset => []
  | .privCheck => [.u24 0#24]
  | .latchViolation => [.u8 0#8]
  | .setBatteryLevel => [.nat 0]
  | .setCharging => [.bool false]
  | .setDebugConfig => [.debugConfig ⟨false, false, [], [], []⟩]
  | .usbHostInt => [.u8 0#8]
  | .usbOtgInt => [.u32 0#32]
  | .usbGrp0Int => [.u8 0#8]
  | .usbGrp1Int => [.u32 0#32]
  | .usbGrp2Int => [.u16 0#16]
  | .usbSetup => [.bytes []]
  | .usbQueueSend => [.ptr .null, .nat 0]
  | .usbServeIn => []
  | .usbStatusSummary => []
  | .snapshotSave => []
  | .snapshotRestore => [.snapshot zeroSnapshot]
  | .powerState => []

/-- The transaction whose word has the low `nbits` bits of `w` and zeros above, with zero operands beside it. -/
def tableTransaction (nbits w : Nat) : Transaction :=
  let word : Word32 := BitVec.ofNat 32 (w % 2 ^ nbits)
  ⟨word, if word.getLsbD 31 then ((sbOpAt (word.extractLsb' 24 7)).map zeroOperands).getD [] else []⟩

/-- The operation the decoder reads from a word of `nbits` bits, operands zero. -/
def decodeTableWord (nbits w : Nat) : Option Instr :=
  match decode (tableTransaction nbits w) with
  | .ok i => some i
  | .error _ => none

/-! ### Assembler lines and pseudo-operations (30_encoding.md R73, R74) -/

/-- `RD addr16` -/
def asmRd (a : Addr) : Transaction := portTransaction true false a 0x00#8

/-- `WR addr16, data8` -/
def asmWr (a : Addr) (v : Byte) : Transaction := portTransaction true true a v

/-- `PEEK addr16` -/
def asmPeek (a : Addr) : Transaction := portTransaction false false a 0x00#8

/-- `POKE addr16, data8` -/
def asmPoke (a : Addr) (v : Byte) : Transaction := portTransaction false true a v

/-- `n` byte writes, least significant byte at the lowest address, in ascending address order: `WR24`, `WR32`, `POKE24`
and `POKE32` by the choice of `line` and `n` (00_scope.md R10, 30_encoding.md R74). After address 0xFFFF comes 0x0000
(DESIGN CHOICE log 29). -/
def asmWrites {w : Nat} (line : Addr → Byte → Transaction) (n : Nat) (a : Addr) (v : BitVec w) : List Transaction :=
  (List.range n).map (fun j => line (a + BitVec.ofNat 16 j) (byteN v j))

/-- `n` byte reads in ascending address order: `RD24`, `RD32`, `PEEK24` and `PEEK32` by the choice of `line` and `n`
(00_scope.md R10, 30_encoding.md R74). After address 0xFFFF comes 0x0000 (DESIGN CHOICE log 29). -/
def asmReads (line : Addr → Transaction) (n : Nat) (a : Addr) : List Transaction :=
  (List.range n).map (fun j => line (a + BitVec.ofNat 16 j))

/-- The result `b2, b1, b0` of `RD24` and `PEEK24`. -/
def join24 (b0 b1 b2 : Byte) : Word24 := b2 ++ b1 ++ b0

/-- The result `b3, b2, b1, b0` of `RD32` and `PEEK32`. -/
def join32 (b0 b1 b2 b3 : Byte) : Word32 := b3 ++ b2 ++ b1 ++ b0

end Sys2Proof
end

