-- ==== Sys2Proof/Machine/State.lean ====
section
/-! DEFINITION. The block's state record (10_state.md R15), the reasons an operation can stop (60_exceptions.md R203), the
events and results of operations (00_scope.md R11, R12), and the state after reset (10_state.md R41). -/

namespace Sys2Proof.Machine

/-- The device of a range (10_state.md R17). -/
inductive Handler where
  | ctrl
  | usb
  | ext (k : RangeNo)
  | unbound
  deriving DecidableEq, Repr

/-- Whether a range has the handler 10_state.md R17 names for it, or none. R17 gives a range no third value. DEDUCED log 11. -/
inductive Binding where
  | unbound
  | bound
  deriving DecidableEq, Repr

/-- The PortBus's state: the handler table (10_state.md R17, R18). -/
structure BusState where
  binding : Vector Binding 16
  deriving DecidableEq, Repr

/-- A USB interrupt class, as a notification names it (00_scope.md R12, 60_exceptions.md R209). -/
inductive UsbClass where
  | host
  | otg
  | grp0
  | grp1
  | grp2
  deriving DecidableEq, Repr

/-- The output events, the complete list (00_scope.md R12). Rates are in whole hertz (DESIGN CHOICE log 10), reason codes are numbers
(DESIGN CHOICE log 9). -/
inductive Event where
  /-- the global reset event set for the CPU core -/
  | resetRequest
  /-- the debugger's "open debugger" entry point -/
  | debugOpen (reason : Nat) (addr : Addr)
  /-- the CPU core's clock-rate setter -/
  | setClock (rate : Nat)
  /-- a call into the interrupt controller, with the level of the USB interrupt output -/
  | usbNotify (cls : UsbClass) (level : Bool)
  /-- a read forwarded to an external device -/
  | extRead (k : RangeNo) (off : Offset) (obs : Bool)
  /-- a write forwarded to an external device -/
  | extWrite (k : RangeNo) (off : Offset) (v : Byte) (obs : Bool)
  deriving DecidableEq, Repr

/-- The result value of an operation (00_scope.md R11). -/
inductive Result where
  | none
  | byte (v : Byte)
  | bool (b : Bool)
  | bytes (l : List Byte)
  | snapshot (snap : Snapshot)
  deriving DecidableEq, Repr

/-- What an operation answers beside the next state: its events, in order, and its result (00_scope.md R11). DESIGN CHOICE log 3. -/
structure Output where
  events : List Event
  result : Result
  deriving DecidableEq, Repr

/-- The state record (10_state.md R15), the debugger's inputs (R37), and three fields of the model's own. -/
structure State where
  /-- cold init has been done (10_state.md R19) -/
  initialised : Bool
  /-- the PortBus (R17) -/
  bus : BusState
  /-- the ControlDevice (R20 to R29) -/
  ctrl : CtrlState
  /-- the USBDeviceController (R31 to R35) -/
  usb : UsbState
  /-- the debugger's inputs, not block state (R37) -/
  dbg : DebugConfig
  /-- the model's own: the operations still to come, in the order the agents issue them (20_memory.md R55; DESIGN CHOICE log 1) -/
  inputs : List Transaction
  /-- the model's own: what the last operation answered beside its next state (00_scope.md R11; DESIGN CHOICE log 3) -/
  out : Output
  /-- the model's own: how many free values have been drawn (00_scope.md R10; DESIGN CHOICE log 4) -/
  draws : Nat
  deriving DecidableEq, Repr

/-- The fault reasons, exactly these two (60_exceptions.md R203). A fault ends the run (R204). -/
inductive Fault where
  /-- raised by every operation but SB.COLD_INIT on a block that is not initialised (40_dispatcher.md R86); the spec's own
  fault, safe -/
  | useBeforeInit
  /-- raised by a port access that resolves to range `k` when it has no handler (40_dispatcher.md R85); the spec's own
  fault, safe -/
  | unboundRange (k : RangeNo)
  deriving DecidableEq, Repr

/-- The refusals (30_encoding.md R72, R75; 60_exceptions.md R203). A refused operation has no next state. -/
inductive Refusal where
  /-- raised by `exec` for an instruction without a meaning; safe (no instruction of this model has none) -/
  | notModelled (mnemonic : String)
  /-- raised by `step` for a transaction the decoder refuses (30_encoding.md R72); safe -/
  | reserved (e : DecodeError)
  /-- raised by SB.SNAPSHOT_RESTORE for a record of another layout (43_sideband.md R197); safe: the source calls what
  follows undefined -/
  | incompatibleSnapshot
  deriving DecidableEq, Repr

/-- The handler table cold init builds: every range bound (43_sideband.md R190). -/
def BusState.bound : BusState := ⟨Vector.replicate 16 .bound⟩

/-- No debugger attached and every map clear (DESIGN CHOICE log 12). -/
def DebugConfig.absent : DebugConfig := ⟨false, false, [], [], []⟩

/-- The machine right after reset: the state SB.COLD_INIT leaves (10_state.md R41, 43_sideband.md R190), with its one
event in `out`, no debugger, no operation waiting, and no free value drawn (DEDUCED log 2). -/
def State.reset : State where
  initialised := true
  bus := BusState.bound
  ctrl := CtrlState.coldInit
  usb := UsbState.cleared
  dbg := DebugConfig.absent
  inputs := []
  out := ⟨[.setClock 6000000], .none⟩
  draws := 0

end Sys2Proof.Machine
end

