-- ==== Sys2Proof/Machine/Flags.lean ====
section
/-! DEFINITION. The derived conditions and levels, computed from the registers and never stored: the clock rate
(10_state.md R30), the battery handshake's next state (41_control.md R108), and the USB pending conditions, interrupt output
and status summary (42_usb.md R136, R138, R139, R164). -/

namespace Sys2Proof.Machine

/-- `clockRate(s)` (10_state.md R30). -/
def clockRateOf (code : BitVec 5) : Nat := Config.clockRate (code.extractLsb' 0 2)

/-- The stored speed code of a written byte, `(v & 0b10011)[4:0]` (41_control.md R100). -/
def speedCodeOf (v : Byte) : BitVec 5 := (v &&& 0b00010011#8).extractLsb' 0 5

/-- The battery state a power-mode write sets (41_control.md R106). -/
def powerModeState (v : Byte) : Byte := if v &&& 0x90#8 ≠ 0#8 then 0x01#8 else 0x00#8

/-- `HS(state, v, level)`, the handshake's transition table (41_control.md R108): its five advancing rows, and 0 in all the
others. A value that is none of its states is a non-matching state and goes to 0 (DEDUCED log 13). -/
def handshake (st v : Byte) (level : BatteryLevel) : Byte :=
  if st = 0x01#8 ∧ v = 0x03#8 then 0x03#8
  else if st = 0x03#8 ∧ level ≠ .level0 ∧ v = 0x83#8 then 0x05#8
  else if st = 0x05#8 ∧ level ≠ .level1 ∧ v = 0x03#8 then 0x07#8
  else if st = 0x07#8 ∧ level ≠ .level2 ∧ v = 0x83#8 then 0x09#8
  else if st = 0x09#8 ∧ level ≠ .level3 ∧ v = 0x03#8 then 0x0B#8
  else 0x00#8

/-- `W32(b)`, the little-endian word at base `b` (42_usb.md R136). -/
def UsbState.w32 (u : UsbState) (b : Nat) : Word32 :=
  u.regs.read (b + 3) ++ u.regs.read (b + 2) ++ u.regs.read (b + 1) ++ u.regs.read b

/-- The word of a named USB register. -/
def UsbState.word (u : UsbState) (r : UsbReg) : Word32 := u.w32 (usbBase r).toNat

/-- `grpPend(0)`: an unmasked 8-bit source of group 0 (42_usb.md R138). -/
def UsbState.grp0Pend (u : UsbState) : Bool :=
  (u.word .disg0).extractLsb' 0 8 &&& ~~~((u.word .dmisg0).extractLsb' 0 8) != 0#8

/-- `grpPend(1)`: an unmasked 32-bit source of group 1 (42_usb.md R138). -/
def UsbState.grp1Pend (u : UsbState) : Bool := u.word .disg1 &&& ~~~(u.word .dmisg1) != 0#32

/-- `grpPend(2)`: an unmasked 16-bit source of group 2 (42_usb.md R138). -/
def UsbState.grp2Pend (u : UsbState) : Bool :=
  (u.word .disg2).extractLsb' 0 16 &&& ~~~((u.word .dmisg2).extractLsb' 0 16) != 0#16

/-- `devPend`: a group pends that DMIGR does not mask (42_usb.md R138). -/
def UsbState.devPend (u : UsbState) : Bool :=
  (u.grp0Pend && !(u.word .dmigr).getLsbD 0) || (u.grp1Pend && !(u.word .dmigr).getLsbD 1) ||
    (u.grp2Pend && !(u.word .dmigr).getLsbD 2)

/-- `otgPend`: an enabled OTG status bit (42_usb.md R138). -/
def UsbState.otgPend (u : UsbState) : Bool := u.word .otgisr &&& u.word .otgier != 0#32

/-- `hostPend`: an enabled host status bit (42_usb.md R138). -/
def UsbState.hostPend (u : UsbState) : Bool :=
  (u.word .usbsts).extractLsb' 0 8 &&& (u.word .usbintr).extractLsb' 0 8 != 0#8

/-- `GISR(s)`: host, OTG, device in bits 2, 1, 0 (42_usb.md R139). -/
def UsbState.gisr (u : UsbState) : BitVec 3 :=
  BitVec.ofBool u.hostPend ++ BitVec.ofBool u.otgPend ++ BitVec.ofBool u.devPend

/-- `DIGR`: groups 2, 1, 0 in bits 2, 1, 0, whatever DMIGR masks (42_usb.md R164). -/
def UsbState.digr (u : UsbState) : BitVec 3 :=
  BitVec.ofBool u.grp2Pend ++ BitVec.ofBool u.grp1Pend ++ BitVec.ofBool u.grp0Pend

/-- `usbIrq(s)`: a class pends that GMIR does not mask (42_usb.md R139). -/
def UsbState.irq (u : UsbState) : Bool := u.gisr &&& ~~~((u.word .gmir).extractLsb' 0 3) != 0#3

/-- `usbStatus(s)`, the status summary byte (42_usb.md R139). -/
def UsbState.status (u : UsbState) : Byte := if u.irq then Config.usbSummaryBit else 0x00#8

end Sys2Proof.Machine
end

