-- ==== Sys2Proof/Machine/Ops.lean ====
section
/-! DEFINITION. The named operations over the state that every meaning is written with: field updates, the dispatcher's
access routine and its debugger consultation (40_dispatcher.md R77 to R84), the shared reset request (41_control.md R97),
initialisation and reset (43_sideband.md R190, R191), the free inputs, and the fetch of the next operation. The block has no
exception entry and no return (60_exceptions.md R212): what stops an operation is a fault (R203, R204), raised here, and what
leaves the block is the reset request. -/

namespace Sys2Proof.Machine

/-- What an operation ends in (60_exceptions.md R203). -/
abbrev StepOutcome := Host.Outcome State Fault Refusal

/-! ### Field updates -/

/-- The state with ControlDevice record `c`. -/
def State.setCtrl (s : State) (c : CtrlState) : State := { s with ctrl := c }

/-- The state with USB record `u`. -/
def State.setUsb (s : State) (u : UsbState) : State := { s with usb := u }

/-- The state with debugger configuration `d`. -/
def State.setDbg (s : State) (d : DebugConfig) : State := { s with dbg := d }

/-- The state an operation ends in, with its events and its result (00_scope.md R11). -/
def State.finish (s : State) (events : List Event) (result : Result) : State := { s with out := ⟨events, result⟩ }

/-- One more free value has been drawn. -/
def State.drawn (s : State) : State := { s with draws := s.draws + 1 }

/-- `s.ctrl.ports[i] <- v` -/
def CtrlState.setPort (c : CtrlState) (i : Nat) (v : Byte) : CtrlState := { c with ports := c.ports.write i v }

/-- `s.ctrl.cpuSpeedCode <- code` -/
def CtrlState.setSpeed (c : CtrlState) (code : BitVec 5) : CtrlState := { c with cpuSpeedCode := code }

/-- `s.ctrl.batteryReadState <- st` -/
def CtrlState.setBattery (c : CtrlState) (st : Byte) : CtrlState := { c with batteryReadState := st }

/-- `s.ctrl.batterySetLevel <- level` -/
def CtrlState.setLevel (c : CtrlState) (level : BatteryLevel) : CtrlState := { c with batterySetLevel := level }

/-- `s.ctrl.batteryCharging <- b` -/
def CtrlState.setCharging (c : CtrlState) (b : Bool) : CtrlState := { c with batteryCharging := b }

/-- `s.ctrl.privilegedBoundary <- x` -/
def CtrlState.setPriv (c : CtrlState) (x : Word24) : CtrlState := { c with privilegedBoundary := x }

/-- `s.ctrl.protectedStart <- x` -/
def CtrlState.setPstart (c : CtrlState) (x : Word24) : CtrlState := { c with protectedStart := x }

/-- `s.ctrl.protectedEnd <- x` -/
def CtrlState.setPend (c : CtrlState) (x : Word24) : CtrlState := { c with protectedEnd := x }

/-- `s.ctrl.stackLimit <- x` -/
def CtrlState.setStack (c : CtrlState) (x : Word24) : CtrlState := { c with stackLimit := x }

/-- `s.ctrl.protectionStatus <- x` -/
def CtrlState.setStatus (c : CtrlState) (x : Byte) : CtrlState := { c with protectionStatus := x }

/-- `s.ctrl.poweredOff <- b` -/
def CtrlState.setOff (c : CtrlState) (b : Bool) : CtrlState := { c with poweredOff := b }

/-- `s.usb.regs[off] <- v` -/
def UsbState.setReg (u : UsbState) (off : Nat) (v : Byte) : UsbState := { u with regs := u.regs.write off v }

/-- `s.usb.ep0Buffer <- b` -/
def UsbState.setBuffer (u : UsbState) (b : Vector Byte 8) : UsbState := { u with ep0Buffer := b }

/-- `s.usb.ep0Index <- n` -/
def UsbState.setIndex (u : UsbState) (n : Nat) : UsbState := { u with ep0Index := n }

/-- `s.usb.transferState <- t` -/
def UsbState.setTransfer (u : UsbState) (t : TransferState) : UsbState := { u with transferState := t }

/-- The pending view: `s.usb.pendingBuffer <- p` and `s.usb.pendingLength <- n` -/
def UsbState.setPending (u : UsbState) (p : HostPtr) (n : Nat) : UsbState :=
  { u with pendingBuffer := p, pendingLength := n }

/-! ### The access routine -/

/-- The device 10_state.md R17 names for range `k`. -/
def deviceOf (k : RangeNo) : Handler :=
  if k = Config.ctrlRange then .ctrl else if k = Config.usbRange then .usb else .ext k

/-- `s.bus.handler[k]` (10_state.md R17). -/
def State.handler (s : State) (k : RangeNo) : Handler :=
  match s.bus.binding.get k.toFin with
  | .bound => deviceOf k
  | .unbound => .unbound

/-- `Resolve(addr)`: the range and the offset, or the fault of an unbound range (40_dispatcher.md R77). -/
def resolve (s : State) (addr : Addr) : Except Fault (RangeNo × Offset) :=
  if s.handler (rangeOf addr) = .unbound then .error (.unboundRange (rangeOf addr))
  else .ok (rangeOf addr, offsetOf addr)

/-- What a device answers a read with: the byte, the state it leaves, its events. -/
structure ReadAnswer where
  value : Byte
  state : State
  events : List Event

/-- What a device answers a write with: the state it leaves and its events. -/
structure WriteAnswer where
  state : State
  events : List Event

/-- The event of a watched observable read (40_dispatcher.md R80, R90). -/
def readWatch (obs : Bool) (addr : Addr) (d : DebugConfig) : List Event :=
  if obs && d.attached && AddrMap.has d.watchRead addr then [.debugOpen Config.dbgReasonPortRead addr] else []

/-- The event of a watched observable write (40_dispatcher.md R81, R90). -/
def writeWatch (obs : Bool) (addr : Addr) (d : DebugConfig) : List Event :=
  if obs && d.attached && AddrMap.has d.watchWrite addr then [.debugOpen Config.dbgReasonPortWrite addr] else []

/-- An observable write to a frozen address, which is suppressed (40_dispatcher.md R81, R90). -/
def frozen (obs : Bool) (addr : Addr) (d : DebugConfig) : Bool :=
  obs && d.attached && AddrMap.has d.freeze addr

/-- RD (`obs`) and PEEK (not `obs`) at `addr`, with `dev` the device's own read: the initialisation check, the resolution,
the device, then the read watch (40_dispatcher.md R78, R80, R82, R86, R92). -/
def portRead (obs : Bool) (addr : Addr) (dev : Offset → State → ReadAnswer) (s : State) : StepOutcome :=
  if s.initialised then
    match resolve s addr with
    | .error f => .fault f
    | .ok (_, off) =>
      .next ((dev off s).state.finish ((dev off s).events ++ readWatch obs addr s.dbg) (.byte (dev off s).value))
  else .fault .useBeforeInit

/-- WR (`obs`) and POKE (not `obs`) at `addr`, with `dev` the device's own write: the initialisation check, the write watch,
the freeze, and only then the resolution and the device (40_dispatcher.md R79, R81, R83, R86, R92; DEDUCED log 24). -/
def portWrite (obs : Bool) (addr : Addr) (dev : Offset → State → WriteAnswer) (s : State) : StepOutcome :=
  if s.initialised then
    if frozen obs addr s.dbg then .next (s.finish (writeWatch obs addr s.dbg) .none)
    else
      match resolve s addr with
      | .error f => .fault f
      | .ok (_, off) => .next ((dev off s).state.finish (writeWatch obs addr s.dbg ++ (dev off s).events) .none)
  else .fault .useBeforeInit

/-! ### Side-band operations -/

/-- What a side-band operation answers: the state it leaves, its events, its result. -/
structure SideAnswer where
  state : State
  events : List Event
  result : Result

/-- A side-band operation on an initialised block (60_exceptions.md R203). -/
def sideBand (run : State → SideAnswer) (s : State) : StepOutcome :=
  if s.initialised then .next ((run s).state.finish (run s).events (run s).result) else .fault .useBeforeInit

/-- `RaiseReset(obs, addr)`: the reset request, and the debugger's opening where it asks for one (41_control.md R97,
60_exceptions.md R206 to R208). -/
def raiseReset (obs : Bool) (addr : Addr) (d : DebugConfig) : List Event :=
  if obs then
    .resetRequest :: (if d.attached && d.openOnReset then [.debugOpen Config.dbgReasonReset addr] else [])
  else []

/-- The ControlDevice after a global reset: `CtrlInit()`, the two environment inputs kept, and the off mark with its
port-visible trace where it survives (43_sideband.md R191, 10_state.md R42). -/
def resetCtrl (c : CtrlState) : CtrlState :=
  let c0 := (CtrlState.coldInit.setLevel c.batterySetLevel).setCharging c.batteryCharging
  if Config.offSurvivesReset && c.poweredOff then
    (c0.setOff true).setPort (ctrlOffset .shutdown).toNat Config.shutdownStatusBit
  else c0

/-- The block after cold init (43_sideband.md R190). The debugger's inputs and the model's own fields stay (DEDUCED log 23). -/
def coldInit (s : State) : State :=
  { s with initialised := true, bus := BusState.bound, ctrl := CtrlState.coldInit, usb := UsbState.cleared }

/-- `byte_n(bits, j)` joined into the `n` registers from `base` on (42_usb.md R177 to R181). -/
def UsbState.orBytes {w : Nat} (u : UsbState) (base : Nat) (bits : BitVec w) : Nat → UsbState
  | 0 => u
  | n + 1 =>
    (u.orBytes base bits n).setReg (base + n) ((u.orBytes base bits n).regs.read (base + n) ||| byteN bits n)

/-- The first eight bytes of a setup packet (42_usb.md R182). -/
def setupBytes (bytes : List Byte) : Vector Byte 8 := Vector.ofFn (fun j => bytes.getD j.val 0x00#8)

/-- The USB record after a well-formed setup packet (42_usb.md R182). -/
def UsbState.loadSetup (u : UsbState) (bytes : List Byte) : UsbState :=
  ((((u.setBuffer (setupBytes bytes)).setIndex 0).setPending .null 0).setTransfer .setupReceived).orBytes
    (usbBase .disg0).toNat 0x01#8 1

/-- A USB interrupt entry point's answer: the marked registers and one notification with the level after the update
(42_usb.md R177 to R182). -/
def usbEntry (cls : UsbClass) (u : UsbState) (s : State) : SideAnswer :=
  ⟨s.setUsb u, [.usbNotify cls u.irq], .none⟩

/-! ### Free inputs -/

/-- `HostMem(p, n)` at the moment of draw number `moment` (42_usb.md R184; DESIGN CHOICE log 5). -/
def hostMem (moment : Nat) (p : HostPtr) (n : Nat) : List Byte := (List.range n).map (Config.hostByte moment p)

/-- The size of the next IN chunk (42_usb.md R185). -/
def UsbState.chunkSize (u : UsbState) : Nat := min u.pendingLength Config.ep0Mps

/-- The USB record after a chunk has been served: the view advanced, and StatusStage once it is drained
(42_usb.md R185). -/
def UsbState.served (u : UsbState) : UsbState :=
  let u' := u.setPending (ptrPlus u.pendingBuffer u.chunkSize) (u.pendingLength - u.chunkSize)
  if u'.pendingLength = 0 then u'.setTransfer .statusStage else u'

/-! ### The next operation -/

/-- The next operation and the state without it, if one is waiting (DESIGN CHOICE log 1). -/
def State.fetch (s : State) : Option (Transaction × State) :=
  match s.inputs with
  | [] => none
  | t :: rest => some (t, { s with inputs := rest })

/-- No operation is waiting: nothing changes and nothing is emitted (00_scope.md R6, 70_reset_and_hazards.md R231; DESIGN CHOICE log 1). -/
def State.idle (s : State) : State := s.finish [] .none

/-- The state with transaction `t` as its next operation. -/
def State.enqueue (s : State) (t : Transaction) : State := { s with inputs := t :: s.inputs }

end Sys2Proof.Machine
end

