-- ==== Sys2Proof/Machine/Control.lean ====
section
/-! DEFINITION. The meanings of the ControlDevice's rows (41_control.md R93 to R132), one for each row. -/

namespace Sys2Proof.Machine

/-- The stored byte of a named register, `s.ctrl.ports[i]`. -/
def CtrlState.port (c : CtrlState) (r : CtrlReg) : Byte := c.ports.read (ctrlOffset r).toNat

/-- The record with byte `v` stored for a named register, `s.ctrl.ports[i] <- v`. -/
def CtrlState.storePort (c : CtrlState) (r : CtrlReg) (v : Byte) : CtrlState := c.setPort (ctrlOffset r).toNat v

/-- A read of a named control register: it returns `value` and changes nothing (41_control.md R95). -/
def ctrlRead (obs : Bool) (r : CtrlReg) (al : BitVec 5) (value : State → Byte) (s : State) : StepOutcome :=
  portRead obs (ctrlRegAddr r al) (fun _ s => ⟨value s, s, []⟩) s

/-- A write of a named control register: it changes the record by `update` and emits `events` (41_control.md R96). -/
def ctrlWrite (obs : Bool) (r : CtrlReg) (al : BitVec 5) (update : CtrlState → CtrlState) (events : State → List Event)
    (s : State) : StepOutcome :=
  portWrite obs (ctrlRegAddr r al) (fun _ s => ⟨s.setCtrl (update s.ctrl), events s⟩) s

/-- A write that emits no event of its own (41_control.md R96). -/
def ctrlUpdate (obs : Bool) (r : CtrlReg) (al : BitVec 5) (update : CtrlState → CtrlState) (s : State) : StepOutcome :=
  ctrlWrite obs r al update (fun _ => []) s

/-- A raw store into the register's own byte (41_control.md R96, 92_eei_decisions.md D11). -/
def ctrlStore (obs : Bool) (r : CtrlReg) (al : BitVec 5) (v : Byte) (s : State) : StepOutcome :=
  ctrlUpdate obs r al (fun c => c.storePort r v) s

/-- CTRL.RESET.R (41_control.md R99): the last value stored, trigger bit included. -/
def execCtrlResetR (obs : Bool) (al : BitVec 5) (s : State) : StepOutcome :=
  ctrlRead obs .reset al (fun s => s.ctrl.port .reset) s

/-- CTRL.RESET.W (41_control.md R98): the byte is stored; with the trigger bit set an observable write requests a reset. -/
def execCtrlResetW (obs : Bool) (al : BitVec 5) (v : Byte) (s : State) : StepOutcome :=
  ctrlWrite obs .reset al (fun c => c.storePort .reset v)
    (fun s => if v &&& Config.resetTriggerMask ≠ 0x00#8 then raiseReset obs (ctrlRegAddr .reset al) s.dbg else []) s

/-- CTRL.SPEED.R (41_control.md R101): the speed code, widened. -/
def execCtrlSpeedR (obs : Bool) (al : BitVec 5) (s : State) : StepOutcome :=
  ctrlRead obs .speed al (fun s => s.ctrl.cpuSpeedCode.setWidth 8) s

/-- CTRL.SPEED.W (41_control.md R100): the code is stored and its rate is emitted, for WR and POKE alike. -/
def execCtrlSpeedW (obs : Bool) (al : BitVec 5) (v : Byte) (s : State) : StepOutcome :=
  ctrlWrite obs .speed al (fun c => c.setSpeed (speedCodeOf v))
    (fun _ => [.setClock (Config.clockRate (v.extractLsb' 0 2))]) s

/-- CTRL.BATT_STATUS.R (41_control.md R102): the state of the battery machine. -/
def execCtrlBattStatusR (obs : Bool) (al : BitVec 5) (s : State) : StepOutcome :=
  ctrlRead obs .battStatus al (fun s => s.ctrl.batteryReadState) s

/-- CTRL.BATT_STATUS.W (41_control.md R103): the byte is stored and never read back; the machine does not move. -/
def execCtrlBattStatusW (obs : Bool) (al : BitVec 5) (v : Byte) (s : State) : StepOutcome :=
  ctrlStore obs .battStatus al v s

/-- CTRL.DEVTYPE.R (41_control.md R104): the OPEN device-type constant (DESIGN CHOICE log 8). -/
def execCtrlDevtypeR (obs : Bool) (al : BitVec 5) (s : State) : StepOutcome :=
  ctrlRead obs .devtype al (fun _ => Config.deviceType) s

/-- CTRL.DEVTYPE.W (41_control.md R105): the byte is stored and never read back. -/
def execCtrlDevtypeW (obs : Bool) (al : BitVec 5) (v : Byte) (s : State) : StepOutcome :=
  ctrlStore obs .devtype al v s

/-- CTRL.POWER_MODE.R (41_control.md R107): the stored byte. -/
def execCtrlPowerModeR (obs : Bool) (al : BitVec 5) (s : State) : StepOutcome :=
  ctrlRead obs .powerMode al (fun s => s.ctrl.port .powerMode) s

/-- CTRL.POWER_MODE.W (41_control.md R106): the byte is stored; bit 7 or bit 4 sets battery state 1, neither sets 0. -/
def execCtrlPowerModeW (obs : Bool) (al : BitVec 5) (v : Byte) (s : State) : StepOutcome :=
  ctrlUpdate obs .powerMode al (fun c => (c.storePort .powerMode v).setBattery (powerModeState v)) s

/-- CTRL.BATT_HS.R (41_control.md R110): the last value written, not the machine's state. -/
def execCtrlBattHsR (obs : Bool) (al : BitVec 5) (s : State) : StepOutcome :=
  ctrlRead obs .battHs al (fun s => s.ctrl.port .battHs) s

/-- CTRL.BATT_HS.W (41_control.md R109): the byte is stored and the battery machine takes one step of R108. -/
def execCtrlBattHsW (obs : Bool) (al : BitVec 5) (v : Byte) (s : State) : StepOutcome :=
  ctrlUpdate obs .battHs al
    (fun c => (c.storePort .battHs v).setBattery (handshake c.batteryReadState v c.batterySetLevel)) s

/-- CTRL.CHARGE.R (41_control.md R111): the stored byte with bit 1 joined in while charging. -/
def execCtrlChargeR (obs : Bool) (al : BitVec 5) (s : State) : StepOutcome :=
  ctrlRead obs .charge al (fun s => s.ctrl.port .charge ||| (if s.ctrl.batteryCharging then 0x02#8 else 0x00#8)) s

/-- CTRL.CHARGE.W (41_control.md R112): the byte is stored. -/
def execCtrlChargeW (obs : Bool) (al : BitVec 5) (v : Byte) (s : State) : StepOutcome :=
  ctrlStore obs .charge al v s

/-- CTRL.SHUTDOWN.R (41_control.md R114): the stored byte. -/
def execCtrlShutdownR (obs : Bool) (al : BitVec 5) (s : State) : StepOutcome :=
  ctrlRead obs .shutdown al (fun s => s.ctrl.port .shutdown) s

/-- CTRL.SHUTDOWN.W (41_control.md R113): the byte is stored; the shutdown code marks the block off, sets the status bit and requests a reset. -/
def execCtrlShutdownW (obs : Bool) (al : BitVec 5) (v : Byte) (s : State) : StepOutcome :=
  ctrlWrite obs .shutdown al
    (fun c =>
      if v = Config.shutdownCode then (c.setOff true).storePort .shutdown (v ||| Config.shutdownStatusBit)
      else c.storePort .shutdown v)
    (fun s => if v = Config.shutdownCode then raiseReset obs (ctrlRegAddr .shutdown al) s.dbg else []) s

/-- CTRL.USB_MIRROR.R (41_control.md R115): the stored byte joined with the USB status summary. -/
def execCtrlUsbMirrorR (obs : Bool) (al : BitVec 5) (s : State) : StepOutcome :=
  ctrlRead obs .usbMirror al (fun s => s.ctrl.port .usbMirror ||| s.usb.status) s

/-- CTRL.USB_MIRROR.W (41_control.md R116): the byte is stored. -/
def execCtrlUsbMirrorW (obs : Bool) (al : BitVec 5) (v : Byte) (s : State) : StepOutcome :=
  ctrlStore obs .usbMirror al v s

/-- CTRL.PRIV0.R (41_control.md R117): byte 0 of `privilegedBoundary`. -/
def execCtrlPriv0R (obs : Bool) (al : BitVec 5) (s : State) : StepOutcome :=
  ctrlRead obs .priv0 al (fun s => byteN s.ctrl.privilegedBoundary 0) s

/-- CTRL.PRIV0.W (41_control.md R118): byte 0 of `privilegedBoundary` is replaced, at once. -/
def execCtrlPriv0W (obs : Bool) (al : BitVec 5) (v : Byte) (s : State) : StepOutcome :=
  ctrlUpdate obs .priv0 al (fun c => c.setPriv (insertN c.privilegedBoundary 0 v)) s

/-- CTRL.PRIV1.R (41_control.md R117): byte 1 of `privilegedBoundary`. -/
def execCtrlPriv1R (obs : Bool) (al : BitVec 5) (s : State) : StepOutcome :=
  ctrlRead obs .priv1 al (fun s => byteN s.ctrl.privilegedBoundary 1) s

/-- CTRL.PRIV1.W (41_control.md R118): byte 1 of `privilegedBoundary` is replaced, at once. -/
def execCtrlPriv1W (obs : Bool) (al : BitVec 5) (v : Byte) (s : State) : StepOutcome :=
  ctrlUpdate obs .priv1 al (fun c => c.setPriv (insertN c.privilegedBoundary 1 v)) s

/-- CTRL.PRIV2.R (41_control.md R117): byte 2 of `privilegedBoundary`. -/
def execCtrlPriv2R (obs : Bool) (al : BitVec 5) (s : State) : StepOutcome :=
  ctrlRead obs .priv2 al (fun s => byteN s.ctrl.privilegedBoundary 2) s

/-- CTRL.PRIV2.W (41_control.md R118): byte 2 of `privilegedBoundary` is replaced, at once. -/
def execCtrlPriv2W (obs : Bool) (al : BitVec 5) (v : Byte) (s : State) : StepOutcome :=
  ctrlUpdate obs .priv2 al (fun c => c.setPriv (insertN c.privilegedBoundary 2 v)) s

/-- CTRL.PSTART0.R (41_control.md R119): byte 0 of `protectedStart`. -/
def execCtrlPstart0R (obs : Bool) (al : BitVec 5) (s : State) : StepOutcome :=
  ctrlRead obs .pstart0 al (fun s => byteN s.ctrl.protectedStart 0) s

/-- CTRL.PSTART0.W (41_control.md R120): byte 0 of `protectedStart` is replaced, at once. -/
def execCtrlPstart0W (obs : Bool) (al : BitVec 5) (v : Byte) (s : State) : StepOutcome :=
  ctrlUpdate obs .pstart0 al (fun c => c.setPstart (insertN c.protectedStart 0 v)) s

/-- CTRL.PSTART1.R (41_control.md R119): byte 1 of `protectedStart`. -/
def execCtrlPstart1R (obs : Bool) (al : BitVec 5) (s : State) : StepOutcome :=
  ctrlRead obs .pstart1 al (fun s => byteN s.ctrl.protectedStart 1) s

/-- CTRL.PSTART1.W (41_control.md R120): byte 1 of `protectedStart` is replaced, at once. -/
def execCtrlPstart1W (obs : Bool) (al : BitVec 5) (v : Byte) (s : State) : StepOutcome :=
  ctrlUpdate obs .pstart1 al (fun c => c.setPstart (insertN c.protectedStart 1 v)) s

/-- CTRL.PSTART2.R (41_control.md R119): byte 2 of `protectedStart`. -/
def execCtrlPstart2R (obs : Bool) (al : BitVec 5) (s : State) : StepOutcome :=
  ctrlRead obs .pstart2 al (fun s => byteN s.ctrl.protectedStart 2) s

/-- CTRL.PSTART2.W (41_control.md R120): byte 2 of `protectedStart` is replaced, at once. -/
def execCtrlPstart2W (obs : Bool) (al : BitVec 5) (v : Byte) (s : State) : StepOutcome :=
  ctrlUpdate obs .pstart2 al (fun c => c.setPstart (insertN c.protectedStart 2 v)) s

/-- CTRL.PEND0.R (41_control.md R121): byte 0 of `protectedEnd`. -/
def execCtrlPend0R (obs : Bool) (al : BitVec 5) (s : State) : StepOutcome :=
  ctrlRead obs .pend0 al (fun s => byteN s.ctrl.protectedEnd 0) s

/-- CTRL.PEND0.W (41_control.md R122): byte 0 of `protectedEnd` is replaced, at once. -/
def execCtrlPend0W (obs : Bool) (al : BitVec 5) (v : Byte) (s : State) : StepOutcome :=
  ctrlUpdate obs .pend0 al (fun c => c.setPend (insertN c.protectedEnd 0 v)) s

/-- CTRL.PEND1.R (41_control.md R121): byte 1 of `protectedEnd`. -/
def execCtrlPend1R (obs : Bool) (al : BitVec 5) (s : State) : StepOutcome :=
  ctrlRead obs .pend1 al (fun s => byteN s.ctrl.protectedEnd 1) s

/-- CTRL.PEND1.W (41_control.md R122): byte 1 of `protectedEnd` is replaced, at once. -/
def execCtrlPend1W (obs : Bool) (al : BitVec 5) (v : Byte) (s : State) : StepOutcome :=
  ctrlUpdate obs .pend1 al (fun c => c.setPend (insertN c.protectedEnd 1 v)) s

/-- CTRL.PEND2.R (41_control.md R121): byte 2 of `protectedEnd`. -/
def execCtrlPend2R (obs : Bool) (al : BitVec 5) (s : State) : StepOutcome :=
  ctrlRead obs .pend2 al (fun s => byteN s.ctrl.protectedEnd 2) s

/-- CTRL.PEND2.W (41_control.md R122): byte 2 of `protectedEnd` is replaced, at once. -/
def execCtrlPend2W (obs : Bool) (al : BitVec 5) (v : Byte) (s : State) : StepOutcome :=
  ctrlUpdate obs .pend2 al (fun c => c.setPend (insertN c.protectedEnd 2 v)) s

/-- CTRL.MISC.R (41_control.md R125): the stored byte with the fixed bit forced. -/
def execCtrlMiscR (obs : Bool) (al : BitVec 5) (s : State) : StepOutcome :=
  ctrlRead obs .misc al (fun s => s.ctrl.port .misc ||| Config.miscFixedBit) s

/-- CTRL.MISC.W (41_control.md R126): the byte is stored as written. -/
def execCtrlMiscW (obs : Bool) (al : BitVec 5) (v : Byte) (s : State) : StepOutcome :=
  ctrlStore obs .misc al v s

/-- CTRL.STACK0.R (41_control.md R123): byte 0 of `stackLimit`. -/
def execCtrlStack0R (obs : Bool) (al : BitVec 5) (s : State) : StepOutcome :=
  ctrlRead obs .stack0 al (fun s => byteN s.ctrl.stackLimit 0) s

/-- CTRL.STACK0.W (41_control.md R124): byte 0 of `stackLimit` is replaced. -/
def execCtrlStack0W (obs : Bool) (al : BitVec 5) (v : Byte) (s : State) : StepOutcome :=
  ctrlUpdate obs .stack0 al (fun c => c.setStack (insertN c.stackLimit 0 v)) s

/-- CTRL.STACK1.R (41_control.md R123): byte 1 of `stackLimit`. -/
def execCtrlStack1R (obs : Bool) (al : BitVec 5) (s : State) : StepOutcome :=
  ctrlRead obs .stack1 al (fun s => byteN s.ctrl.stackLimit 1) s

/-- CTRL.STACK1.W (41_control.md R124): byte 1 of `stackLimit` is replaced. -/
def execCtrlStack1W (obs : Bool) (al : BitVec 5) (v : Byte) (s : State) : StepOutcome :=
  ctrlUpdate obs .stack1 al (fun c => c.setStack (insertN c.stackLimit 1 v)) s

/-- CTRL.STACK2.R (41_control.md R123): byte 2 of `stackLimit`. -/
def execCtrlStack2R (obs : Bool) (al : BitVec 5) (s : State) : StepOutcome :=
  ctrlRead obs .stack2 al (fun s => byteN s.ctrl.stackLimit 2) s

/-- CTRL.STACK2.W (41_control.md R124): byte 2 of `stackLimit` is replaced. -/
def execCtrlStack2W (obs : Bool) (al : BitVec 5) (v : Byte) (s : State) : StepOutcome :=
  ctrlUpdate obs .stack2 al (fun c => c.setStack (insertN c.stackLimit 2 v)) s

/-- CTRL.PSTATUS.R (41_control.md R127): the latched flags. -/
def execCtrlPstatusR (obs : Bool) (al : BitVec 5) (s : State) : StepOutcome :=
  ctrlRead obs .pstatus al (fun s => s.ctrl.protectionStatus) s

/-- CTRL.PSTATUS.W (41_control.md R128): the byte is stored and never read back; the flags do not change. -/
def execCtrlPstatusW (obs : Bool) (al : BitVec 5) (v : Byte) (s : State) : StepOutcome :=
  ctrlStore obs .pstatus al v s

/-- CTRL.PACK.R (41_control.md R130): the stored byte, which no port write changes. -/
def execCtrlPackR (obs : Bool) (al : BitVec 5) (s : State) : StepOutcome :=
  ctrlRead obs .pack al (fun s => s.ctrl.port .pack) s

/-- CTRL.PACK.W (41_control.md R129): the flags whose bit is written 1 are cleared; the byte is not stored. -/
def execCtrlPackW (obs : Bool) (al : BitVec 5) (v : Byte) (s : State) : StepOutcome :=
  ctrlUpdate obs .pack al (fun c => c.setStatus (c.protectionStatus &&& ~~~v)) s

/-- CTRL.RAW.R (41_control.md R131): the stored byte of an offset without a row of R93. -/
def execCtrlRawR (obs : Bool) (al : BitVec 5) (off : BitVec 7) (s : State) : StepOutcome :=
  portRead obs (ctrlAddr off al) (fun i s => ⟨s.ctrl.ports.read i.toNat, s, []⟩) s

/-- CTRL.RAW.W (41_control.md R132): the byte is stored at such an offset. -/
def execCtrlRawW (obs : Bool) (al : BitVec 5) (off : BitVec 7) (v : Byte) (s : State) : StepOutcome :=
  portWrite obs (ctrlAddr off al) (fun i s => ⟨s.setCtrl (s.ctrl.setPort i.toNat v), []⟩) s

end Sys2Proof.Machine
end

