-- ==== Sys2Proof/Machine/External.lean ====
section
/-! DEFINITION. The meanings of the external ranges' rows (40_dispatcher.md R84): the access is forwarded and recorded, and a
read returns any byte. -/

namespace Sys2Proof.Machine

/-- EXT.R (40_dispatcher.md R84): the access is forwarded; the byte is a free value (DESIGN CHOICE log 4). -/
def execExtR (obs : Bool) (k : RangeNo) (l : Offset) (s : State) : StepOutcome :=
  portRead obs (extAddr k l) (fun off s => ⟨Config.freeByte s.draws, s.drawn, [.extRead k off obs]⟩) s

/-- EXT.W (40_dispatcher.md R84): the access is forwarded; no state of the block changes. -/
def execExtW (obs : Bool) (k : RangeNo) (l : Offset) (v : Byte) (s : State) : StepOutcome :=
  portWrite obs (extAddr k l) (fun off s => ⟨s, [.extWrite k off v obs]⟩) s

end Sys2Proof.Machine
end

