-- ==== Sys2Proof/Machine/SideBand.lean ====
section
/-! DEFINITION. The meanings of the side-band rows (41_control.md R133, 42_usb.md R177 to R187, 43_sideband.md R190 to R198),
one for each row. -/

namespace Sys2Proof.Machine

/-- A side-band operation that changes the state and answers nothing. -/
def sideUpdate (f : State → State) (s : State) : StepOutcome := sideBand (fun s => ⟨f s, [], .none⟩) s

/-- A side-band operation that answers a result and changes nothing. -/
def sideQuery (f : State → Result) (s : State) : StepOutcome := sideBand (fun s => ⟨s, [], f s⟩) s

/-- `isAddressUnprivileged(pc)`, every comparison unsigned on 24 bits (41_control.md R133, R134). -/
def CtrlState.unprivileged (c : CtrlState) (pc : Word24) : Bool :=
  c.privilegedBoundary.ult pc && (pc.ult c.protectedStart || c.protectedEnd.ult pc)

/-- SB.COLD_INIT (43_sideband.md R190): construction and initialisation of the whole block, legal before initialisation too. -/
def execSbColdInit (s : State) : StepOutcome :=
  .next ((coldInit s).finish [.setClock (Config.clockRate 0#2)] .none)

/-- SB.GLOBAL_RESET (43_sideband.md R191): both devices reset, environment inputs and the off mark kept. -/
def execSbGlobalReset (s : State) : StepOutcome :=
  sideBand (fun s =>
    ⟨(s.setCtrl (resetCtrl s.ctrl)).setUsb UsbState.cleared, [.setClock (Config.clockRate 0#2)], .none⟩) s

/-- SB.USB_RESET (42_usb.md R187): the USB controller is cleared, the ControlDevice is not touched. -/
def execSbUsbReset (s : State) : StepOutcome :=
  sideUpdate (fun s => s.setUsb UsbState.cleared) s

/-- SB.PRIV_CHECK (41_control.md R133): whether the program counter is unprivileged. -/
def execSbPrivCheck (pc : Word24) (s : State) : StepOutcome :=
  sideQuery (fun s => .bool (s.ctrl.unprivileged pc)) s

/-- SB.LATCH_VIOLATION (43_sideband.md R192): the violation flags are joined in. -/
def execSbLatchViolation (bits : Byte) (s : State) : StepOutcome :=
  sideUpdate (fun s => s.setCtrl (s.ctrl.setStatus (s.ctrl.protectionStatus ||| bits))) s

/-- SB.SET_BATTERY_LEVEL (43_sideband.md R193): the target level; the battery machine does not move. -/
def execSbSetBatteryLevel (level : BatteryLevel) (s : State) : StepOutcome :=
  sideUpdate (fun s => s.setCtrl (s.ctrl.setLevel level)) s

/-- SB.SET_CHARGING (43_sideband.md R194): the charger input. -/
def execSbSetCharging (b : Bool) (s : State) : StepOutcome :=
  sideUpdate (fun s => s.setCtrl (s.ctrl.setCharging b)) s

/-- SB.SET_DEBUG_CONFIG (43_sideband.md R195): the debugger's configuration. -/
def execSbSetDebugConfig (cfg : DebugConfig) (s : State) : StepOutcome :=
  sideUpdate (fun s => s.setDbg cfg) s

/-- SB.USB_HOST_INT (42_usb.md R177): the pending bits are joined in and the class is notified. -/
def execSbUsbHostInt (bits : Byte) (s : State) : StepOutcome :=
  sideBand (fun s => usbEntry .host (s.usb.orBytes (usbBase .usbsts).toNat bits 1) s) s

/-- SB.USB_OTG_INT (42_usb.md R178): the pending bits are joined in and the class is notified. -/
def execSbUsbOtgInt (bits : Word32) (s : State) : StepOutcome :=
  sideBand (fun s => usbEntry .otg (s.usb.orBytes (usbBase .otgisr).toNat bits 4) s) s

/-- SB.USB_GRP0_INT (42_usb.md R179): the pending bits are joined in and the class is notified. -/
def execSbUsbGrp0Int (bits : Byte) (s : State) : StepOutcome :=
  sideBand (fun s => usbEntry .grp0 (s.usb.orBytes (usbBase .disg0).toNat bits 1) s) s

/-- SB.USB_GRP1_INT (42_usb.md R180): the pending bits are joined in and the class is notified. -/
def execSbUsbGrp1Int (bits : Word32) (s : State) : StepOutcome :=
  sideBand (fun s => usbEntry .grp1 (s.usb.orBytes (usbBase .disg1).toNat bits 4) s) s

/-- SB.USB_GRP2_INT (42_usb.md R181): the pending bits are joined in and the class is notified. -/
def execSbUsbGrp2Int (bits : BitVec 16) (s : State) : StepOutcome :=
  sideBand (fun s => usbEntry .grp2 (s.usb.orBytes (usbBase .disg2).toNat bits 2) s) s

/-- SB.USB_SETUP (42_usb.md R182): fewer than 8 bytes are ignored; otherwise the first 8 are loaded and group 0 is notified. -/
def execSbUsbSetup (bytes : List Byte) (s : State) : StepOutcome :=
  sideBand (fun s =>
    if bytes.length < 8 then ⟨s, [], .none⟩ else usbEntry .grp0 (s.usb.loadSetup bytes) s) s

/-- SB.USB_QUEUE_SEND (42_usb.md R183): the view is replaced; an empty one goes straight to StatusStage. -/
def execSbUsbQueueSend (buf : HostPtr) (len : Nat) (s : State) : StepOutcome :=
  sideUpdate (fun s =>
    s.setUsb ((s.usb.setPending buf len).setTransfer (if len = 0 then .statusStage else .dataStage))) s

/-- SB.USB_SERVE_IN (42_usb.md R185): the next chunk of queued data, or the empty list. In DataStage with nothing pending
R185 changes nothing, where the table of R176 goes to StatusStage; R185 is followed (DEDUCED log 30). -/
def execSbUsbServeIn (s : State) : StepOutcome :=
  sideBand (fun s =>
    if s.usb.transferState = .dataStage ∧ 0 < s.usb.pendingLength then
      ⟨(s.setUsb s.usb.served).drawn, [], .bytes (hostMem s.draws s.usb.pendingBuffer s.usb.chunkSize)⟩
    else ⟨s, [], .bytes []⟩) s

/-- SB.USB_STATUS_SUMMARY (42_usb.md R186): the status summary byte. -/
def execSbUsbStatusSummary (s : State) : StepOutcome :=
  sideQuery (fun s => .byte s.usb.status) s

/-- SB.SNAPSHOT_SAVE (43_sideband.md R196): both devices' records under this spec's layout tag. -/
def execSbSnapshotSave (s : State) : StepOutcome :=
  sideQuery (fun s => .snapshot ⟨.thisSpec, s.ctrl, s.usb⟩) s

/-- SB.SNAPSHOT_RESTORE (43_sideband.md R197): both devices' records as saved; a record of another layout is refused. -/
def execSbSnapshotRestore (snap : Snapshot) (s : State) : StepOutcome :=
  match s.initialised, snap.layout with
  | false, _ => .fault .useBeforeInit
  | true, .other _ => .refused .incompatibleSnapshot
  | true, .thisSpec => sideUpdate (fun s => (s.setCtrl snap.ctrl).setUsb snap.usb) s

/-- SB.POWER_STATE (43_sideband.md R198): the off mark. -/
def execSbPowerState (s : State) : StepOutcome :=
  sideQuery (fun s => .bool s.ctrl.poweredOff) s

end Sys2Proof.Machine
end

