-- ==== Sys2Proof/Machine/Usb.lean ====
section
/-! DEFINITION. The meanings of the USBDeviceController's register rows (42_usb.md R136 to R175), one for each row. -/

namespace Sys2Proof.Machine

/-- A read of a byte lane that returns the stored byte (42_usb.md R140). -/
def usbReadStored (obs : Bool) (r : UsbReg) (lane : BitVec 2) (al : BitVec 3) (s : State) : StepOutcome :=
  portRead obs (usbRegAddr r lane al) (fun off s => ⟨s.usb.regs.read off.toNat, s, []⟩) s

/-- A read of a byte lane of a derived register: byte `lane` of the value, widened to 32 bits (42_usb.md R150, R164). -/
def usbReadDerived (obs : Bool) (r : UsbReg) (lane : BitVec 2) (al : BitVec 3) (value : UsbState → BitVec 3) (s : State) :
    StepOutcome :=
  portRead obs (usbRegAddr r lane al) (fun _ s => ⟨byteN ((value s.usb).setWidth 32) lane.toNat, s, []⟩) s

/-- A write of a byte lane that makes `f old v` of the stored byte (42_usb.md R141). -/
def usbWriteWith (f : Byte → Byte → Byte) (obs : Bool) (r : UsbReg) (lane : BitVec 2) (al : BitVec 3) (v : Byte) (s : State) :
    StepOutcome :=
  portWrite obs (usbRegAddr r lane al)
    (fun off s => ⟨s.setUsb (s.usb.setReg off.toNat (f (s.usb.regs.read off.toNat) v)), []⟩) s

/-- A plain store (42_usb.md R141). -/
def usbStore (obs : Bool) (r : UsbReg) (lane : BitVec 2) (al : BitVec 3) (v : Byte) (s : State) : StepOutcome :=
  usbWriteWith (fun _ v => v) obs r lane al v s

/-- Write one to clear (42_usb.md R143, R147). -/
def usbClearOnes (obs : Bool) (r : UsbReg) (lane : BitVec 2) (al : BitVec 3) (v : Byte) (s : State) : StepOutcome :=
  usbWriteWith (fun old v => old &&& ~~~v) obs r lane al v s

/-- Write zero to clear (42_usb.md R167, R169, R171). -/
def usbClearZeros (obs : Bool) (r : UsbReg) (lane : BitVec 2) (al : BitVec 3) (v : Byte) (s : State) : StepOutcome :=
  usbWriteWith (fun old v => old &&& v) obs r lane al v s

/-- A write without effect on the device (42_usb.md R151, R165, R173). -/
def usbIgnore (obs : Bool) (r : UsbReg) (lane : BitVec 2) (al : BitVec 3) (s : State) : StepOutcome :=
  portWrite obs (usbRegAddr r lane al) (fun _ s => ⟨s, []⟩) s

/-- CX_DONE ends the control transfer: Idle, and the pending view dropped (42_usb.md R155, R176). -/
def UsbState.cxDone (u : UsbState) : UsbState := (u.setTransfer .idle).setPending .null 0

/-- The byte at the endpoint-0 cursor, 0x00 past the eighth (42_usb.md R172). -/
def UsbState.cxByte (u : UsbState) : Byte := if h : u.ep0Index < 8 then u.ep0Buffer[u.ep0Index] else 0x00#8

/-- The endpoint-0 cursor after an observable read (42_usb.md R172). -/
def UsbState.cxAdvance (u : UsbState) : UsbState := if u.ep0Index < 8 then u.setIndex (u.ep0Index + 1) else u

/-- USB.USBSTS.R (42_usb.md R142): the stored byte. -/
def execUsbUsbstsR (obs : Bool) (al : BitVec 3) (lane : BitVec 2) (s : State) : StepOutcome :=
  usbReadStored obs .usbsts lane al s

/-- USB.USBSTS.W (42_usb.md R143): each bit written 1 is cleared, no bit is set. -/
def execUsbUsbstsW (obs : Bool) (al : BitVec 3) (lane : BitVec 2) (v : Byte) (s : State) : StepOutcome :=
  usbClearOnes obs .usbsts lane al v s

/-- USB.USBINTR.R (42_usb.md R144): the stored byte. -/
def execUsbUsbintrR (obs : Bool) (al : BitVec 3) (lane : BitVec 2) (s : State) : StepOutcome :=
  usbReadStored obs .usbintr lane al s

/-- USB.USBINTR.W (42_usb.md R145): the byte is stored. -/
def execUsbUsbintrW (obs : Bool) (al : BitVec 3) (lane : BitVec 2) (v : Byte) (s : State) : StepOutcome :=
  usbStore obs .usbintr lane al v s

/-- USB.OTGISR.R (42_usb.md R146): the stored byte. -/
def execUsbOtgisrR (obs : Bool) (al : BitVec 3) (lane : BitVec 2) (s : State) : StepOutcome :=
  usbReadStored obs .otgisr lane al s

/-- USB.OTGISR.W (42_usb.md R147): each bit written 1 is cleared, no bit is set. -/
def execUsbOtgisrW (obs : Bool) (al : BitVec 3) (lane : BitVec 2) (v : Byte) (s : State) : StepOutcome :=
  usbClearOnes obs .otgisr lane al v s

/-- USB.OTGIER.R (42_usb.md R148): the stored byte. -/
def execUsbOtgierR (obs : Bool) (al : BitVec 3) (lane : BitVec 2) (s : State) : StepOutcome :=
  usbReadStored obs .otgier lane al s

/-- USB.OTGIER.W (42_usb.md R149): the byte is stored. -/
def execUsbOtgierW (obs : Bool) (al : BitVec 3) (lane : BitVec 2) (v : Byte) (s : State) : StepOutcome :=
  usbStore obs .otgier lane al v s

/-- USB.GISR.R (42_usb.md R150): the derived conditions in lane 0, 0x00 in the other lanes. -/
def execUsbGisrR (obs : Bool) (al : BitVec 3) (lane : BitVec 2) (s : State) : StepOutcome :=
  usbReadDerived obs .gisr lane al (fun u => u.gisr) s

/-- USB.GISR.W (42_usb.md R151): no effect on the device. -/
def execUsbGisrW (obs : Bool) (al : BitVec 3) (lane : BitVec 2) (_v : Byte) (s : State) : StepOutcome :=
  usbIgnore obs .gisr lane al s

/-- USB.GMIR.R (42_usb.md R152): the stored byte. -/
def execUsbGmirR (obs : Bool) (al : BitVec 3) (lane : BitVec 2) (s : State) : StepOutcome :=
  usbReadStored obs .gmir lane al s

/-- USB.GMIR.W (42_usb.md R153): the byte is stored. -/
def execUsbGmirW (obs : Bool) (al : BitVec 3) (lane : BitVec 2) (v : Byte) (s : State) : StepOutcome :=
  usbStore obs .gmir lane al v s

/-- USB.DCFESR.R (42_usb.md R154): the stored byte. -/
def execUsbDcfesrR (obs : Bool) (al : BitVec 3) (lane : BitVec 2) (s : State) : StepOutcome :=
  usbReadStored obs .dcfesr lane al s

/-- USB.DCFESR.W (42_usb.md R155): lane 0 stores all but bit 0, and bit 0 ends the transfer; the other lanes store. -/
def execUsbDcfesrW (obs : Bool) (al : BitVec 3) (lane : BitVec 2) (v : Byte) (s : State) : StepOutcome :=
  portWrite obs (usbRegAddr .dcfesr lane al)
    (fun off s =>
      if lane = 0#2 then
        ⟨s.setUsb (if v.getLsbD 0 then (s.usb.setReg off.toNat (v &&& 0xFE#8)).cxDone
                   else s.usb.setReg off.toNat (v &&& 0xFE#8)), []⟩
      else ⟨s.setUsb (s.usb.setReg off.toNat v), []⟩) s

/-- USB.DMIGR.R (42_usb.md R156): the stored byte. -/
def execUsbDmigrR (obs : Bool) (al : BitVec 3) (lane : BitVec 2) (s : State) : StepOutcome :=
  usbReadStored obs .dmigr lane al s

/-- USB.DMIGR.W (42_usb.md R157): the byte is stored. -/
def execUsbDmigrW (obs : Bool) (al : BitVec 3) (lane : BitVec 2) (v : Byte) (s : State) : StepOutcome :=
  usbStore obs .dmigr lane al v s

/-- USB.DMISG0.R (42_usb.md R158): the stored byte. -/
def execUsbDmisg0R (obs : Bool) (al : BitVec 3) (lane : BitVec 2) (s : State) : StepOutcome :=
  usbReadStored obs .dmisg0 lane al s

/-- USB.DMISG0.W (42_usb.md R159): the byte is stored. -/
def execUsbDmisg0W (obs : Bool) (al : BitVec 3) (lane : BitVec 2) (v : Byte) (s : State) : StepOutcome :=
  usbStore obs .dmisg0 lane al v s

/-- USB.DMISG1.R (42_usb.md R160): the stored byte. -/
def execUsbDmisg1R (obs : Bool) (al : BitVec 3) (lane : BitVec 2) (s : State) : StepOutcome :=
  usbReadStored obs .dmisg1 lane al s

/-- USB.DMISG1.W (42_usb.md R161): the byte is stored. -/
def execUsbDmisg1W (obs : Bool) (al : BitVec 3) (lane : BitVec 2) (v : Byte) (s : State) : StepOutcome :=
  usbStore obs .dmisg1 lane al v s

/-- USB.DMISG2.R (42_usb.md R162): the stored byte. -/
def execUsbDmisg2R (obs : Bool) (al : BitVec 3) (lane : BitVec 2) (s : State) : StepOutcome :=
  usbReadStored obs .dmisg2 lane al s

/-- USB.DMISG2.W (42_usb.md R163): the byte is stored. -/
def execUsbDmisg2W (obs : Bool) (al : BitVec 3) (lane : BitVec 2) (v : Byte) (s : State) : StepOutcome :=
  usbStore obs .dmisg2 lane al v s

/-- USB.DIGR.R (42_usb.md R164): the derived conditions in lane 0, 0x00 in the other lanes. -/
def execUsbDigrR (obs : Bool) (al : BitVec 3) (lane : BitVec 2) (s : State) : StepOutcome :=
  usbReadDerived obs .digr lane al (fun u => u.digr) s

/-- USB.DIGR.W (42_usb.md R165): no effect on the device. -/
def execUsbDigrW (obs : Bool) (al : BitVec 3) (lane : BitVec 2) (_v : Byte) (s : State) : StepOutcome :=
  usbIgnore obs .digr lane al s

/-- USB.DISG0.R (42_usb.md R166): the stored byte. -/
def execUsbDisg0R (obs : Bool) (al : BitVec 3) (lane : BitVec 2) (s : State) : StepOutcome :=
  usbReadStored obs .disg0 lane al s

/-- USB.DISG0.W (42_usb.md R167): each bit written 0 is cleared, no bit is set. -/
def execUsbDisg0W (obs : Bool) (al : BitVec 3) (lane : BitVec 2) (v : Byte) (s : State) : StepOutcome :=
  usbClearZeros obs .disg0 lane al v s

/-- USB.DISG1.R (42_usb.md R168): the stored byte. -/
def execUsbDisg1R (obs : Bool) (al : BitVec 3) (lane : BitVec 2) (s : State) : StepOutcome :=
  usbReadStored obs .disg1 lane al s

/-- USB.DISG1.W (42_usb.md R169): each bit written 0 is cleared, no bit is set. -/
def execUsbDisg1W (obs : Bool) (al : BitVec 3) (lane : BitVec 2) (v : Byte) (s : State) : StepOutcome :=
  usbClearZeros obs .disg1 lane al v s

/-- USB.DISG2.R (42_usb.md R170): the stored byte. -/
def execUsbDisg2R (obs : Bool) (al : BitVec 3) (lane : BitVec 2) (s : State) : StepOutcome :=
  usbReadStored obs .disg2 lane al s

/-- USB.DISG2.W (42_usb.md R171): each bit written 0 is cleared, no bit is set. -/
def execUsbDisg2W (obs : Bool) (al : BitVec 3) (lane : BitVec 2) (v : Byte) (s : State) : StepOutcome :=
  usbClearZeros obs .disg2 lane al v s

/-- USB.CXPORT.R (42_usb.md R172): the setup byte at the cursor, whatever the lane; an observable read advances the cursor. -/
def execUsbCxportR (obs : Bool) (al : BitVec 3) (lane : BitVec 2) (s : State) : StepOutcome :=
  portRead obs (usbRegAddr .cxport lane al)
    (fun _ s => ⟨s.usb.cxByte, if obs then s.setUsb s.usb.cxAdvance else s, []⟩) s

/-- USB.CXPORT.W (42_usb.md R173): no effect on the device. -/
def execUsbCxportW (obs : Bool) (al : BitVec 3) (lane : BitVec 2) (_v : Byte) (s : State) : StepOutcome :=
  usbIgnore obs .cxport lane al s

/-- USB.RAW.R (42_usb.md R174): the stored byte of an offset R137 does not name; any byte under `USB_UNMODELLED = draw` (DEDUCED log 20). -/
def execUsbRawR (obs : Bool) (al : BitVec 3) (off : BitVec 9) (s : State) : StepOutcome :=
  portRead obs (usbAddr off al)
    (fun i s =>
      match Config.usbUnmodelled with
      | .store => ⟨s.usb.regs.read i.toNat, s, []⟩
      | .draw => ⟨Config.freeByte s.draws, s.drawn, []⟩) s

/-- USB.RAW.W (42_usb.md R175): the byte is stored. -/
def execUsbRawW (obs : Bool) (al : BitVec 3) (off : BitVec 9) (v : Byte) (s : State) : StepOutcome :=
  portWrite obs (usbAddr off al) (fun i s => ⟨s.setUsb (s.usb.setReg i.toNat v), []⟩) s

end Sys2Proof.Machine
end

