-- ==== Sys2Proof/Machine/Dispatch.lean ====
section
/-! DEFINITION. The dispatch: one arm for each operation, one direct call of its meaning. -/

namespace Sys2Proof.Machine

/-- The meaning of an operation. -/
def exec (i : Instr) (s : State) : Host.Outcome State Fault Refusal :=
  match i with
  | .ctrlResetR obs al => Sys2Proof.Machine.execCtrlResetR obs al s
  | .ctrlResetW obs al v => Sys2Proof.Machine.execCtrlResetW obs al v s
  | .ctrlSpeedR obs al => Sys2Proof.Machine.execCtrlSpeedR obs al s
  | .ctrlSpeedW obs al v => Sys2Proof.Machine.execCtrlSpeedW obs al v s
  | .ctrlBattStatusR obs al => Sys2Proof.Machine.execCtrlBattStatusR obs al s
  | .ctrlBattStatusW obs al v => Sys2Proof.Machine.execCtrlBattStatusW obs al v s
  | .ctrlDevtypeR obs al => Sys2Proof.Machine.execCtrlDevtypeR obs al s
  | .ctrlDevtypeW obs al v => Sys2Proof.Machine.execCtrlDevtypeW obs al v s
  | .ctrlPowerModeR obs al => Sys2Proof.Machine.execCtrlPowerModeR obs al s
  | .ctrlPowerModeW obs al v => Sys2Proof.Machine.execCtrlPowerModeW obs al v s
  | .ctrlBattHsR obs al => Sys2Proof.Machine.execCtrlBattHsR obs al s
  | .ctrlBattHsW obs al v => Sys2Proof.Machine.execCtrlBattHsW obs al v s
  | .ctrlChargeR obs al => Sys2Proof.Machine.execCtrlChargeR obs al s
  | .ctrlChargeW obs al v => Sys2Proof.Machine.execCtrlChargeW obs al v s
  | .ctrlShutdownR obs al => Sys2Proof.Machine.execCtrlShutdownR obs al s
  | .ctrlShutdownW obs al v => Sys2Proof.Machine.execCtrlShutdownW obs al v s
  | .ctrlUsbMirrorR obs al => Sys2Proof.Machine.execCtrlUsbMirrorR obs al s
  | .ctrlUsbMirrorW obs al v => Sys2Proof.Machine.execCtrlUsbMirrorW obs al v s
  | .ctrlPriv0R obs al => Sys2Proof.Machine.execCtrlPriv0R obs al s
  | .ctrlPriv0W obs al v => Sys2Proof.Machine.execCtrlPriv0W obs al v s
  | .ctrlPriv1R obs al => Sys2Proof.Machine.execCtrlPriv1R obs al s
  | .ctrlPriv1W obs al v => Sys2Proof.Machine.execCtrlPriv1W obs al v s
  | .ctrlPriv2R obs al => Sys2Proof.Machine.execCtrlPriv2R obs al s
  | .ctrlPriv2W obs al v => Sys2Proof.Machine.execCtrlPriv2W obs al v s
  | .ctrlPstart0R obs al => Sys2Proof.Machine.execCtrlPstart0R obs al s
  | .ctrlPstart0W obs al v => Sys2Proof.Machine.execCtrlPstart0W obs al v s
  | .ctrlPstart1R obs al => Sys2Proof.Machine.execCtrlPstart1R obs al s
  | .ctrlPstart1W obs al v => Sys2Proof.Machine.execCtrlPstart1W obs al v s
  | .ctrlPstart2R obs al => Sys2Proof.Machine.execCtrlPstart2R obs al s
  | .ctrlPstart2W obs al v => Sys2Proof.Machine.execCtrlPstart2W obs al v s
  | .ctrlPend0R obs al => Sys2Proof.Machine.execCtrlPend0R obs al s
  | .ctrlPend0W obs al v => Sys2Proof.Machine.execCtrlPend0W obs al v s
  | .ctrlPend1R obs al => Sys2Proof.Machine.execCtrlPend1R obs al s
  | .ctrlPend1W obs al v => Sys2Proof.Machine.execCtrlPend1W obs al v s
  | .ctrlPend2R obs al => Sys2Proof.Machine.execCtrlPend2R obs al s
  | .ctrlPend2W obs al v => Sys2Proof.Machine.execCtrlPend2W obs al v s
  | .ctrlMiscR obs al => Sys2Proof.Machine.execCtrlMiscR obs al s
  | .ctrlMiscW obs al v => Sys2Proof.Machine.execCtrlMiscW obs al v s
  | .ctrlStack0R obs al => Sys2Proof.Machine.execCtrlStack0R obs al s
  | .ctrlStack0W obs al v => Sys2Proof.Machine.execCtrlStack0W obs al v s
  | .ctrlStack1R obs al => Sys2Proof.Machine.execCtrlStack1R obs al s
  | .ctrlStack1W obs al v => Sys2Proof.Machine.execCtrlStack1W obs al v s
  | .ctrlStack2R obs al => Sys2Proof.Machine.execCtrlStack2R obs al s
  | .ctrlStack2W obs al v => Sys2Proof.Machine.execCtrlStack2W obs al v s
  | .ctrlPstatusR obs al => Sys2Proof.Machine.execCtrlPstatusR obs al s
  | .ctrlPstatusW obs al v => Sys2Proof.Machine.execCtrlPstatusW obs al v s
  | .ctrlPackR obs al => Sys2Proof.Machine.execCtrlPackR obs al s
  | .ctrlPackW obs al v => Sys2Proof.Machine.execCtrlPackW obs al v s
  | .ctrlRawR obs al off => Sys2Proof.Machine.execCtrlRawR obs al off s
  | .ctrlRawW obs al off v => Sys2Proof.Machine.execCtrlRawW obs al off v s
  | .usbUsbstsR obs al lane => Sys2Proof.Machine.execUsbUsbstsR obs al lane s
  | .usbUsbstsW obs al lane v => Sys2Proof.Machine.execUsbUsbstsW obs al lane v s
  | .usbUsbintrR obs al lane => Sys2Proof.Machine.execUsbUsbintrR obs al lane s
  | .usbUsbintrW obs al lane v => Sys2Proof.Machine.execUsbUsbintrW obs al lane v s
  | .usbOtgisrR obs al lane => Sys2Proof.Machine.execUsbOtgisrR obs al lane s
  | .usbOtgisrW obs al lane v => Sys2Proof.Machine.execUsbOtgisrW obs al lane v s
  | .usbOtgierR obs al lane => Sys2Proof.Machine.execUsbOtgierR obs al lane s
  | .usbOtgierW obs al lane v => Sys2Proof.Machine.execUsbOtgierW obs al lane v s
  | .usbGisrR obs al lane => Sys2Proof.Machine.execUsbGisrR obs al lane s
  | .usbGisrW obs al lane v => Sys2Proof.Machine.execUsbGisrW obs al lane v s
  | .usbGmirR obs al lane => Sys2Proof.Machine.execUsbGmirR obs al lane s
  | .usbGmirW obs al lane v => Sys2Proof.Machine.execUsbGmirW obs al lane v s
  | .usbDcfesrR obs al lane => Sys2Proof.Machine.execUsbDcfesrR obs al lane s
  | .usbDcfesrW obs al lane v => Sys2Proof.Machine.execUsbDcfesrW obs al lane v s
  | .usbDmigrR obs al lane => Sys2Proof.Machine.execUsbDmigrR obs al lane s
  | .usbDmigrW obs al lane v => Sys2Proof.Machine.execUsbDmigrW obs al lane v s
  | .usbDmisg0R obs al lane => Sys2Proof.Machine.execUsbDmisg0R obs al lane s
  | .usbDmisg0W obs al lane v => Sys2Proof.Machine.execUsbDmisg0W obs al lane v s
  | .usbDmisg1R obs al lane => Sys2Proof.Machine.execUsbDmisg1R obs al lane s
  | .usbDmisg1W obs al lane v => Sys2Proof.Machine.execUsbDmisg1W obs al lane v s
  | .usbDmisg2R obs al lane => Sys2Proof.Machine.execUsbDmisg2R obs al lane s
  | .usbDmisg2W obs al lane v => Sys2Proof.Machine.execUsbDmisg2W obs al lane v s
  | .usbDigrR obs al lane => Sys2Proof.Machine.execUsbDigrR obs al lane s
  | .usbDigrW obs al lane v => Sys2Proof.Machine.execUsbDigrW obs al lane v s
  | .usbDisg0R obs al lane => Sys2Proof.Machine.execUsbDisg0R obs al lane s
  | .usbDisg0W obs al lane v => Sys2Proof.Machine.execUsbDisg0W obs al lane v s
  | .usbDisg1R obs al lane => Sys2Proof.Machine.execUsbDisg1R obs al lane s
  | .usbDisg1W obs al lane v => Sys2Proof.Machine.execUsbDisg1W obs al lane v s
  | .usbDisg2R obs al lane => Sys2Proof.Machine.execUsbDisg2R obs al lane s
  | .usbDisg2W obs al lane v => Sys2Proof.Machine.execUsbDisg2W obs al lane v s
  | .usbCxportR obs al lane => Sys2Proof.Machine.execUsbCxportR obs al lane s
  | .usbCxportW obs al lane v => Sys2Proof.Machine.execUsbCxportW obs al lane v s
  | .usbRawR obs al off => Sys2Proof.Machine.execUsbRawR obs al off s
  | .usbRawW obs al off v => Sys2Proof.Machine.execUsbRawW obs al off v s
  | .extR obs k l => Sys2Proof.Machine.execExtR obs k l s
  | .extW obs k l v => Sys2Proof.Machine.execExtW obs k l v s
  | .sbColdInit => Sys2Proof.Machine.execSbColdInit s
  | .sbGlobalReset => Sys2Proof.Machine.execSbGlobalReset s
  | .sbUsbReset => Sys2Proof.Machine.execSbUsbReset s
  | .sbPrivCheck pc => Sys2Proof.Machine.execSbPrivCheck pc s
  | .sbLatchViolation bits => Sys2Proof.Machine.execSbLatchViolation bits s
  | .sbSetBatteryLevel level => Sys2Proof.Machine.execSbSetBatteryLevel level s
  | .sbSetCharging b => Sys2Proof.Machine.execSbSetCharging b s
  | .sbSetDebugConfig cfg => Sys2Proof.Machine.execSbSetDebugConfig cfg s
  | .sbUsbHostInt bits => Sys2Proof.Machine.execSbUsbHostInt bits s
  | .sbUsbOtgInt bits => Sys2Proof.Machine.execSbUsbOtgInt bits s
  | .sbUsbGrp0Int bits => Sys2Proof.Machine.execSbUsbGrp0Int bits s
  | .sbUsbGrp1Int bits => Sys2Proof.Machine.execSbUsbGrp1Int bits s
  | .sbUsbGrp2Int bits => Sys2Proof.Machine.execSbUsbGrp2Int bits s
  | .sbUsbSetup bytes => Sys2Proof.Machine.execSbUsbSetup bytes s
  | .sbUsbQueueSend buf len => Sys2Proof.Machine.execSbUsbQueueSend buf len s
  | .sbUsbServeIn => Sys2Proof.Machine.execSbUsbServeIn s
  | .sbUsbStatusSummary => Sys2Proof.Machine.execSbUsbStatusSummary s
  | .sbSnapshotSave => Sys2Proof.Machine.execSbSnapshotSave s
  | .sbSnapshotRestore snap => Sys2Proof.Machine.execSbSnapshotRestore snap s
  | .sbPowerState => Sys2Proof.Machine.execSbPowerState s

end Sys2Proof.Machine
end

