-- ==== Sys2Proof/Machine/Step.lean ====
section
/-! DEFINITION. One step of the machine: the next waiting operation is decoded and executed; without one the block idles. -/

namespace Sys2Proof.Machine

/-- One step: one operation at the block's interface (00_scope.md R3, 70_reset_and_hazards.md R231). A transaction the decoder
refuses has no next state (30_encoding.md R75). -/
def step (s : State) : Host.Outcome State Fault Refusal :=
  match s.fetch with
  | none => .next s.idle
  | some (t, s') =>
    match decode t with
    | .error e => .refused (.reserved e)
    | .ok i => exec i s'

/-- `s` with the operation of a word of `nbits` bits, its operands zero, as the next to come (DEDUCED log 2, DESIGN CHOICE log 16). -/
def State.withFetchWord (s : State) (nbits w : Nat) : State := s.enqueue (tableTransaction nbits w)

end Sys2Proof.Machine
end

