-- ==== Sys2Proof/Safety.lean ====
section
/-! DEFINITION. The terms the statements about runs use: when the block is ready, the invariants the spec gives its states
(10_state.md R44) and the stronger ones its write rules keep, and what two outcomes have in common. -/

namespace Sys2Proof.Machine

/-- An initialised, fully bound block (00_scope.md R11, 60_exceptions.md R203). -/
def State.Ready (s : State) : Prop := s.initialised = true ∧ ∀ k : RangeNo, s.handler k ≠ .unbound

/-- The invariants of a ControlDevice record: its array is canonical, bits 2 and 3 of the speed code are 0, and the battery
machine is in one of its seven states (10_state.md R21, R22, R44). -/
structure CtrlState.Inv (c : CtrlState) : Prop where
  wf : Memory.wf 256 c.ports = true
  speed : c.cpuSpeedCode &&& 0b01100#5 = 0#5
  battery : c.batteryReadState ∈ batteryStates

/-- The invariants of a USB record: its array is canonical, the cursor and the pending length are in range, and the unused
bytes of the group status registers are 0 (10_state.md R44). -/
structure UsbState.Inv (u : UsbState) : Prop where
  wf : Memory.wf 512 u.regs = true
  index : u.ep0Index ≤ 8
  pending : u.transferState = .idle ∨ u.transferState = .setupReceived → u.pendingLength = 0
  disg0 : ∀ a, 0x145 ≤ a → a ≤ 0x147 → u.regs.read a = 0#8
  disg2 : ∀ a, 0x14E ≤ a → a ≤ 0x14F → u.regs.read a = 0#8

/-- The snapshot records waiting in the operands satisfy `P` and `Q`: 10_state.md R44 and 93_implementation_defined.md I2 keep
the invariants only for snapshots that do. -/
def State.Queued (P : CtrlState → Prop) (Q : UsbState → Prop) (s : State) : Prop :=
  ∀ t ∈ s.inputs, ∀ snap : Snapshot, Operand.snapshot snap ∈ t.operands → snap.layout = .thisSpec →
    P snap.ctrl ∧ Q snap.usb

/-- The invariants every reachable state keeps (10_state.md R44), with those of the snapshot records still to be restored. -/
structure State.Inv (s : State) : Prop where
  ctrl : s.ctrl.Inv
  usb : s.usb.Inv
  dbg : DebugConfig.wf s.dbg = true
  queued : s.Queued CtrlState.Inv UsbState.Inv

/-- The control offsets whose byte no port write stores: SPEED, the memory-range registers and PACK
(92_eei_decisions.md D11). -/
def unstoredOffsets : List Nat :=
  [0x01, 0x1D, 0x1E, 0x1F, 0x20, 0x21, 0x22, 0x23, 0x24, 0x25, 0x3A, 0x3B, 0x3C, 0x3E]

/-- No byte stands where no port write stores one, and none from 0x80 on (41_control.md R94, R130, 92_eei_decisions.md
D11). -/
structure CtrlState.Storage (c : CtrlState) : Prop where
  wf : Memory.wf 256 c.ports = true
  unstored : ∀ a ∈ unstoredOffsets, c.ports.read a = 0#8
  high : ∀ a, 0x80 ≤ a → c.ports.read a = 0#8

/-- No byte stands in the derived registers and the data port, and bit 0 of DCFESR is 0 (42_usb.md R151, R154, R155, R165,
R173). -/
structure UsbState.Storage (u : UsbState) : Prop where
  wf : Memory.wf 512 u.regs = true
  gisr : ∀ a, 0x0C0 ≤ a → a ≤ 0x0C3 → u.regs.read a = 0#8
  digr : ∀ a, 0x140 ≤ a → a ≤ 0x143 → u.regs.read a = 0#8
  cxport : ∀ a, 0x1D0 ≤ a → a ≤ 0x1D3 → u.regs.read a = 0#8
  dcfesr : (u.regs.read 0x120).getLsbD 0 = false

/-- The storage invariants of the block and of the snapshot records still to be restored. -/
structure State.Storage (s : State) : Prop where
  ctrl : s.ctrl.Storage
  usb : s.usb.Storage
  queued : s.Queued CtrlState.Storage UsbState.Storage

/-- Data is pending exactly in DataStage (42_usb.md R176, R182, R183, R185, R187). -/
def UsbState.PendingInDataStage (u : UsbState) : Prop := u.transferState = .dataStage ↔ 0 < u.pendingLength

/-- The same of the block and of the snapshot records still to be restored. -/
structure State.PendingInDataStage (s : State) : Prop where
  usb : s.usb.PendingInDataStage
  queued : s.Queued (fun _ => True) UsbState.PendingInDataStage

/-- Two outcomes with the same effect on the devices and the same result (40_dispatcher.md R83, R87); their events are
not compared here. -/
def SameEffect : StepOutcome → StepOutcome → Prop
  | .next t, .next u =>
    t.initialised = u.initialised ∧ t.bus = u.bus ∧ t.ctrl = u.ctrl ∧ t.usb = u.usb ∧ t.dbg = u.dbg ∧
      t.inputs = u.inputs ∧ t.draws = u.draws ∧ t.out.result = u.out.result
  | .fault f, .fault g => f = g
  | .refused r, .refused q => r = q
  | _, _ => False

/-- An event that opens the debugger. -/
def Event.isDebugOpen : Event → Bool
  | .debugOpen _ _ => true
  | _ => false

/-- The events of an outcome but for those that open the debugger (40_dispatcher.md R87). -/
def blockEvents : StepOutcome → List Event
  | .next t => t.out.events.filter (fun e => !e.isDebugOpen)
  | _ => []

end Sys2Proof.Machine
end

