-- ==== Sys2Proof/Certificates/Slice0/Obligations.lean ====
section
/-! DEFINITION. The statements for the provers, each from the rules of spec/ it names. The shapes that several statements share
come first. -/

open Sys2Proof Sys2Proof.Machine

namespace Sys2Proof.Stated

/-- The operation completes and only answers: `events`, then `r`; the state is otherwise the same. -/
def Answers (i : Instr) (s : State) (events : List Event) (r : Result) : Prop :=
  exec i s = .next { s with out := ⟨events, r⟩ }

/-- The operation completes, byte `off` of the control array becomes `stored`, every other byte of it stays, the other control
fields are those of `c`, and everything else stays. -/
def StoresControl (i : Instr) (s : State) (off : Nat) (stored : Byte) (c : CtrlState) (events : List Event) : Prop :=
  ∃ t, exec i s = .next t ∧
    t = { s with ctrl := { c with ports := t.ctrl.ports }, out := ⟨events, .none⟩ } ∧
    t.ctrl.ports.read off = stored ∧ ∀ a, a ≠ off → t.ctrl.ports.read a = s.ctrl.ports.read a

/-- The operation completes, byte `off` of the USB block becomes `stored`, every other byte of it stays, the other USB fields
are those of `u`, and everything else stays. -/
def StoresUsb (i : Instr) (s : State) (off : Nat) (stored : Byte) (u : UsbState) (events : List Event) : Prop :=
  ∃ t, exec i s = .next t ∧
    t = { s with usb := { u with regs := t.usb.regs }, out := ⟨events, .none⟩ } ∧
    t.usb.regs.read off = stored ∧ ∀ a, a ≠ off → t.usb.regs.read a = s.usb.regs.read a

/-- The operation completes, `bits` are joined into the `n` bytes from `base` on, the class is notified once with the level
after the update, and everything else stays. -/
def MarksAndNotifies {w : Nat} (i : Instr) (s : State) (cls : UsbClass) (base n : Nat) (bits : BitVec w) : Prop :=
  ∃ t, exec i s = .next t ∧
    t = { s with usb := { s.usb with regs := t.usb.regs }, out := ⟨[.usbNotify cls t.usb.irq], .none⟩ } ∧
    ∀ a, t.usb.regs.read a =
      if base ≤ a ∧ a < base + n then s.usb.regs.read a ||| bits.extractLsb' (8 * (a - base)) 8 else s.usb.regs.read a

/-- Before cold init the operation faults (60_exceptions.md R203). -/
def FaultsUninitialised (i : Instr) : Prop := ∀ s : State, s.initialised = false → exec i s = .fault .useBeforeInit

/-- The address of lane `lane` of the USB register at base `b`, under alias `al`. -/
def laneAddr (b : BitVec 9) (lane : BitVec 2) (al : BitVec 3) : Addr := usbAddr (b + lane.setWidth 9) al

/-- The events of a reset request (41_control.md R97). -/
def resetEvents (obs : Bool) (addr : Addr) (s : State) : List Event :=
  if obs = true then
    if s.dbg.attached = true ∧ s.dbg.openOnReset = true then [.resetRequest, .debugOpen Config.dbgReasonReset addr]
    else [.resetRequest]
  else []

end Sys2Proof.Stated

open Sys2Proof.Stated

/-! ### Decoding -/

/-- 30_encoding.md R64, R65, R68 to R71: one written-out word for each family decodes to the operation it stands for. -/
def Obligations.WrittenWordsDecode : Prop :=
  decode ⟨0b0_00000_0_1_0000_00000_0000001_11111111#32, []⟩ = .ok (.ctrlSpeedW true 0#5 0xFF#8) ∧
  decode ⟨0b0_00000_1_0_0000_11110_0001111_00000000#32, []⟩ = .ok (.ctrlUsbMirrorR false 0b11110#5) ∧
  decode ⟨0b0_00000_0_0_0011_111_000010101_00000000#32, []⟩ = .ok (.usbUsbstsR true 0b111#3 1#2) ∧
  decode ⟨0b0_00000_1_1_0101_000000000100_00000001#32, []⟩ = .ok (.extW false 0x5#4 0x004#12 0x01#8) ∧
  decode ⟨0b1_0000100_000000000000000000000000#32, [.u24 0x000150#24]⟩ = .ok (.sbPrivCheck 0x000150#24)

/-- Decode and encode agree: decoding what the encoder writes gives the operation back, with every operand at every value, and
whatever decodes is well formed. -/
def Obligations.DecodeAndEncodeAgree : Prop :=
  (∀ i : Instr, i.wf = true → decode (encode i) = .ok i) ∧
  (∀ (t : Transaction) (i : Instr), decode t = .ok i → i.wf = true)

/-- 30_encoding.md R67: decode is the first-row search of the opcode table; every PORT word with `Z = 0` decodes; bit `I` does
not change the row. -/
def Obligations.DecodeIsFirstTableRow : Prop :=
  (∀ (t : Transaction) (i : Instr), decode t = .ok i → (firstRow t.word).map (fun r => r.mnemonic) = some i.mnemonic) ∧
  (∀ t : Transaction, t.word.getLsbD 31 = false → t.word.extractLsb' 26 5 = 0#5 → ∃ i, decode t = .ok i) ∧
  (∀ (obs obs' wr : Bool) (a : Addr) (v : Byte) (i j : Instr), decode (portTransaction obs wr a v) = .ok i →
    decode (portTransaction obs' wr a v) = .ok j → i.mnemonic = j.mnemonic)

/-- 30_encoding.md R72: the reserved encodings are refused, and every PORT word with `Z = 0` is legal. -/
def Obligations.ReservedEncodingsRefused : Prop :=
  (∀ t : Transaction, t.word.getLsbD 31 = false → t.word.extractLsb' 26 5 ≠ 0#5 → ∃ e, decode t = .error e) ∧
  (∀ t : Transaction, t.word.getLsbD 31 = false → t.word.extractLsb' 26 5 = 0#5 → ∃ i, decode t = .ok i) ∧
  (∀ t : Transaction, t.word.getLsbD 31 = true →
    t.word.extractLsb' 24 7 = 0x00#7 ∨ 0x15 ≤ (t.word.extractLsb' 24 7).toNat → ∃ e, decode t = .error e) ∧
  (∀ t : Transaction, t.word.getLsbD 31 = true → t.word.extractLsb' 0 24 ≠ 0#24 → ∃ e, decode t = .error e) ∧
  (∀ n : Nat, 6 ≤ n → ∃ e, decode (sbTransaction .setBatteryLevel [.nat n]) = .error e) ∧
  (∀ (p : SbOp) (l : List Operand), l.map operandType ≠ sbTypes p → ∃ e, decode (sbTransaction p l) = .error e)

/-- A step runs the decoded operation, refuses a transaction that does not decode (30_encoding.md R75), and idles when no
operation is waiting (the model's choice, DESIGN CHOICE log 1); a table word placed for the fetch is what the next step runs (DEDUCED log 2). -/
def Obligations.StepRunsDecodedOperation : Prop :=
  (∀ (s : State) (t : Transaction) (rest : List Transaction) (i : Instr), s.inputs = t :: rest → decode t = .ok i →
    i.wf = true ∧ step s = exec i { s with inputs := rest }) ∧
  (∀ (s : State) (t : Transaction) (rest : List Transaction) (e : DecodeError), s.inputs = t :: rest →
    decode t = .error e → step s = .refused (.reserved e)) ∧
  (∀ s : State, s.inputs = [] → step s = .next { s with out := ⟨[], .none⟩ }) ∧
  (∀ (s : State) (w : Nat) (i : Instr), decodeTableWord 32 w = some i → step (s.withFetchWord 32 w) = exec i s)

/-- 30_encoding.md R74: the multi-byte lines expand to byte operations (WR or POKE, RD or PEEK), least significant byte at the
lowest address, in ascending address order; the bytes read join to the value written. That address 0x0000 follows 0xFFFF is
the model's choice (log 29). -/
def Obligations.PseudoOperationsExpand : Prop :=
  (∀ line ∈ [asmWr, asmPoke],
    (∀ (a : Addr) (v : Word24), asmWrites line 3 a v =
      [line a (v.extractLsb' 0 8), line (a + 1#16) (v.extractLsb' 8 8), line (a + 2#16) (v.extractLsb' 16 8)]) ∧
    ∀ (a : Addr) (v : Word32), asmWrites line 4 a v =
      [line a (v.extractLsb' 0 8), line (a + 1#16) (v.extractLsb' 8 8), line (a + 2#16) (v.extractLsb' 16 8),
       line (a + 3#16) (v.extractLsb' 24 8)]) ∧
  (∀ line ∈ [asmRd, asmPeek], ∀ a : Addr,
    asmReads line 3 a = [line a, line (a + 1#16), line (a + 2#16)] ∧
    asmReads line 4 a = [line a, line (a + 1#16), line (a + 2#16), line (a + 3#16)]) ∧
  (∀ v : Word24, join24 (v.extractLsb' 0 8) (v.extractLsb' 8 8) (v.extractLsb' 16 8) = v) ∧
  (∀ v : Word32, join32 (v.extractLsb' 0 8) (v.extractLsb' 8 8) (v.extractLsb' 16 8) (v.extractLsb' 24 8) = v)

/-! ### The dispatcher -/

/-- 40_dispatcher.md R87: accesses to two addresses of one range with one masked offset have the same effect, the same result
and the same events; only the debugger's maps may tell them apart (a write is compared where both or neither is frozen, and
the events without those that open the debugger). -/
def Obligations.MirroringLaw : Prop :=
  ∀ (s : State) (obs wr : Bool) (a b : Addr) (v : Byte), rangeOf a = rangeOf b →
    a &&& (mirror (rangeOf a)).setWidth 16 = b &&& (mirror (rangeOf b)).setWidth 16 →
    (wr = true → frozen obs a s.dbg = frozen obs b s.dbg) →
    SameEffect (step (s.enqueue (portTransaction obs wr a v))) (step (s.enqueue (portTransaction obs wr b v))) ∧
    blockEvents (step (s.enqueue (portTransaction obs wr a v))) = blockEvents (step (s.enqueue (portTransaction obs wr b v)))

/-- 40_dispatcher.md R88: a PEEK of a ready block completes, changes nothing of the block, and emits nothing but the record of
a forwarded read. -/
def Obligations.PeekIsPure : Prop :=
  ∀ (s : State) (a : Addr), s.Ready → ∃ t, step (s.enqueue (asmPeek a)) = .next t ∧
    t = { s with out := t.out, draws := t.draws } ∧ ∀ e ∈ t.out.events, ∃ k off, e = .extRead k off false

/-- 40_dispatcher.md R83: a POKE writes what a WR that is not frozen writes, and emits only `SetClock` and the `ExtWrite`
record. -/
def Obligations.PokeWritesLikeWrite : Prop :=
  ∀ (s : State) (a : Addr) (v : Byte), s.Ready →
    (∃ t, step (s.enqueue (asmPoke a v)) = .next t ∧
      ∀ e ∈ t.out.events, (∃ r, e = .setClock r) ∨ ∃ k off, e = .extWrite k off v false) ∧
    (frozen true a s.dbg = false →
      SameEffect (step (s.enqueue (asmPoke a v))) (step (s.enqueue (asmWr a v))))

/-- 20_memory.md R53, 40_dispatcher.md R80: an RD of a ready block changes nothing but the cursor of the endpoint-0 data port;
of a range that is not external, it emits exactly the read watch, and away from the data port a second RD returns the same
byte. -/
def Obligations.ReadHasNoOtherEffect : Prop :=
  ∀ (s : State) (a : Addr), s.Ready → ∃ t, step (s.enqueue (asmRd a)) = .next t ∧
    t = { s with usb := { s.usb with ep0Index := t.usb.ep0Index }, out := t.out, draws := t.draws } ∧
    (¬(rangeOf a = 0x3#4 ∧ a.extractLsb' 2 7 = 0b1110100#7) → t.usb = s.usb) ∧
    (rangeOf a = 0x0#4 ∨ rangeOf a = 0x3#4 →
      t.draws = s.draws ∧
      t.out.events = (if s.dbg.attached = true ∧ a ∈ s.dbg.watchRead then [.debugOpen Config.dbgReasonPortRead a] else []) ∧
      (¬(rangeOf a = 0x3#4 ∧ a.extractLsb' 2 7 = 0b1110100#7) →
        ∃ u, step (t.enqueue (asmRd a)) = .next u ∧ u.out.result = t.out.result))

/-- 40_dispatcher.md R81: the write watch comes first, and a frozen write then has no device effect at all; the write watch of
a frozen address is still emitted. That this holds of an address whose range is unbound too is the model's reading
(log 24). -/
def Obligations.FrozenWriteHasNoEffect : Prop :=
  ∀ (s : State) (a : Addr) (v : Byte), s.initialised = true → s.dbg.attached = true → a ∈ s.dbg.freeze →
    step (s.enqueue (asmWr a v)) =
      .next { s with
        out := ⟨if a ∈ s.dbg.watchWrite then [.debugOpen Config.dbgReasonPortWrite a] else [], .none⟩ }

/-- 40_dispatcher.md R92: the write watch opens before the device's events and the read watch after them; the device's own
events open the debugger at most once on a write and never on a read. -/
def Obligations.AccessEventOrder : Prop :=
  ∀ (s t : State) (a : Addr) (v : Byte),
    (step (s.enqueue (asmWr a v)) = .next t → ∃ dev : List Event,
      t.out.events =
        (if s.dbg.attached = true ∧ a ∈ s.dbg.watchWrite then [.debugOpen Config.dbgReasonPortWrite a] else []) ++ dev ∧
      (dev.filter Event.isDebugOpen).length ≤ 1) ∧
    (step (s.enqueue (asmRd a)) = .next t → ∃ dev : List Event,
      t.out.events =
        dev ++ (if s.dbg.attached = true ∧ a ∈ s.dbg.watchRead then [.debugOpen Config.dbgReasonPortRead a] else []) ∧
      dev.filter Event.isDebugOpen = [])

/-- 40_dispatcher.md R90: with no debugger attached no port operation opens it and no write is frozen, whatever the maps
hold: the outcome is that of clear maps. -/
def Obligations.DetachedDebuggerIsSilent : Prop :=
  ∀ (s : State) (obs wr : Bool) (a : Addr) (v : Byte), s.dbg.attached = false →
    (∀ t, step (s.enqueue (portTransaction obs wr a v)) = .next t →
      ∀ e ∈ t.out.events, Event.isDebugOpen e = false) ∧
    (∀ t, step (s.enqueue (portTransaction obs wr a v)) = .next t →
      ∃ u, step (({ s with dbg := { s.dbg with watchRead := [], watchWrite := [], freeze := [] } } : State).enqueue
          (portTransaction obs wr a v)) = .next u ∧
        u.ctrl = t.ctrl ∧ u.usb = t.usb ∧ u.out = t.out)

/-- 40_dispatcher.md R89: a RAW byte reads as the last WR or POKE to its offset left it, under any alias, and only such a
write, a reset or a restore changes it. -/
def Obligations.RawPassThrough : Prop :=
  (∀ (s : State) (obs obs' : Bool) (al al' : BitVec 5) (off : BitVec 7) (v : Byte), s.Ready →
    Memory.wf 256 s.ctrl.ports = true → ctrlRegAt off = none → frozen obs (ctrlAddr off al) s.dbg = false →
    ∃ t u, exec (.ctrlRawW obs al off v) s = .next t ∧ exec (.ctrlRawR obs' al' off) t = .next u ∧
      u.out.result = .byte v) ∧
  (∀ (s : State) (obs obs' : Bool) (al al' : BitVec 3) (off : BitVec 9) (v : Byte), s.Ready →
    Memory.wf 512 s.usb.regs = true → usbRegAt off = none → frozen obs (usbAddr off al) s.dbg = false →
    ∃ t u, exec (.usbRawW obs al off v) s = .next t ∧ exec (.usbRawR obs' al' off) t = .next u ∧
      u.out.result = .byte v) ∧
  (∀ (i : Instr) (s t : State) (off : BitVec 7), i.wf = true → exec i s = .next t → ctrlRegAt off = none →
    t.ctrl.ports.read off.toNat ≠ s.ctrl.ports.read off.toNat →
    (∃ obs al v, i = .ctrlRawW obs al off v) ∨ i = .sbColdInit ∨ i = .sbGlobalReset ∨ ∃ snap, i = .sbSnapshotRestore snap) ∧
  (∀ (i : Instr) (s t : State) (off : BitVec 9), i.wf = true → exec i s = .next t → usbRegAt off = none →
    t.usb.regs.read off.toNat ≠ s.usb.regs.read off.toNat →
    (∃ obs al v, i = .usbRawW obs al off v) ∨ i = .sbColdInit ∨ i = .sbGlobalReset ∨ i = .sbUsbReset ∨
      ∃ snap, i = .sbSnapshotRestore snap)

/-- 10_state.md R19: before cold init every operation but cold init faults; no operation clears the flag. -/
def Obligations.UninitialisedBlockFaults : Prop :=
  (∀ (i : Instr) (s : State), s.initialised = false → i ≠ .sbColdInit → exec i s = .fault .useBeforeInit) ∧
  (∀ (i : Instr) (s t : State), exec i s = .next t → t.initialised = true)

/-- 40_dispatcher.md R77, R81, R85: an access that resolves to an unbound range faults with that range. -/
def Obligations.UnboundRangeFaults : Prop :=
  ∀ (s : State) (obs wr : Bool) (a : Addr) (v : Byte), s.initialised = true → s.handler (rangeOf a) = .unbound →
    (wr = true → frozen obs a s.dbg = false) →
    step (s.enqueue (portTransaction obs wr a v)) = .fault (.unboundRange (rangeOf a))

/-- 60_exceptions.md R203: on a ready block every decoded operation completes, but for a restore of another layout. -/
def Obligations.ReadyBlockCompletes : Prop :=
  ∀ (s : State) (t : Transaction) (i : Instr), s.Ready → decode t = .ok i →
    (∀ snap, i = .sbSnapshotRestore snap → snap.layout = .thisSpec) → ∃ u, step (s.enqueue t) = .next u

/-- An access changes only the device of its own range (40_dispatcher.md R78, R79, R84). -/
def Obligations.AccessTouchesOneDevice : Prop :=
  ∀ (s t : State) (obs wr : Bool) (a : Addr) (v : Byte), step (s.enqueue (portTransaction obs wr a v)) = .next t →
    (rangeOf a ≠ 0x0#4 → t.ctrl = s.ctrl) ∧ (rangeOf a ≠ 0x3#4 → t.usb = s.usb) ∧
    t.initialised = s.initialised ∧ t.bus = s.bus ∧ t.dbg = s.dbg ∧ t.inputs = s.inputs

/-- 40_dispatcher.md R84: an external access is forwarded and recorded, changes nothing of the block, and a read returns a
byte, whatever byte that is. -/
def Obligations.ExternalAccessForwards : Prop :=
  ∀ (s : State) (obs : Bool) (k : RangeNo) (l : Offset) (v : Byte), s.Ready → k ≠ 0x0#4 → k ≠ 0x3#4 →
    (∃ b, exec (.extR obs k l) s = .next { s with
      draws := s.draws + 1,
      out := ⟨.extRead k (l &&& mirror k) obs :: readWatch obs (extAddr k l) s.dbg, .byte b⟩ }) ∧
    (frozen obs (extAddr k l) s.dbg = false →
      Answers (.extW obs k l v) s (writeWatch obs (extAddr k l) s.dbg ++ [.extWrite k (l &&& mirror k) v obs]) .none)

/-! ### Invariants -/

/-- Every step keeps the block ready and none faults (60_exceptions.md R204). -/
def Obligations.ReadyBlockNeverFaults : Prop :=
  ∀ s : State, s.Ready → (∀ f, step s ≠ .fault f) ∧ ∀ t, step s = .next t → t.Ready

/-- 10_state.md R44: every step keeps the invariants, where the snapshot records still to be restored have them. -/
def Obligations.StepKeepsInvariants : Prop := ∀ s t : State, s.Inv → step s = .next t → t.Inv

/-- Every step keeps unstored bytes unstored (41_control.md R94, R130; 42_usb.md R151, R154, R155, R165, R173). -/
def Obligations.StepKeepsStorage : Prop := ∀ s t : State, s.Storage → step s = .next t → t.Storage

/-- Every step keeps data pending exactly in DataStage (42_usb.md R155, R176, R182, R183, R185, R187). -/
def Obligations.StepKeepsPendingInDataStage : Prop :=
  ∀ s t : State, s.PendingInDataStage → step s = .next t → t.PendingInDataStage

/-- The state after reset is ready and has every invariant. -/
def Obligations.ResetMeetsInvariants : Prop :=
  State.reset.Ready ∧ State.reset.Inv ∧ State.reset.Storage ∧ State.reset.PendingInDataStage

/-! ### The ControlDevice -/

/-- 41_control.md R99, R107, R110, R114, R131: reads that return the stored byte, and change nothing. -/
def Obligations.ControlStoredReads : Prop :=
  ∀ (s : State) (obs : Bool) (al : BitVec 5), s.Ready →
    (∀ p ∈ [(Instr.ctrlResetR obs al, 0x00#7), (Instr.ctrlPowerModeR obs al, 0x07#7), (Instr.ctrlBattHsR obs al, 0x09#7),
        (Instr.ctrlShutdownR obs al, 0x0C#7), (Instr.ctrlPackR obs al, 0x3E#7)],
      Answers p.1 s (readWatch obs (ctrlAddr p.2 al) s.dbg) (.byte (s.ctrl.ports.read p.2.toNat))) ∧
    ∀ off : BitVec 7, ctrlRegAt off = none →
      Answers (.ctrlRawR obs al off) s (readWatch obs (ctrlAddr off al) s.dbg) (.byte (s.ctrl.ports.read off.toNat))

/-- 41_control.md R101, R102, R104, R111, R115, R125, R127: reads that return a field, a constant or a stored byte with bits
joined in, and change nothing. Under the invariant of the record (10_state.md R44) the speed code and the battery state read as
one of the values R101 and R102 list. -/
def Obligations.ControlComputedReads : Prop :=
  ∀ (s : State) (obs : Bool) (al : BitVec 5), s.Ready →
    (∀ p ∈ [(Instr.ctrlSpeedR obs al, 0x01#7, s.ctrl.cpuSpeedCode.setWidth 8),
        (Instr.ctrlBattStatusR obs al, 0x02#7, s.ctrl.batteryReadState),
        (Instr.ctrlDevtypeR obs al, 0x03#7, Config.deviceType),
        (Instr.ctrlChargeR obs al, 0x0A#7,
          s.ctrl.ports.read 0x0A ||| (if s.ctrl.batteryCharging = true then 0x02#8 else 0x00#8)),
        (Instr.ctrlUsbMirrorR obs al, 0x0F#7,
          s.ctrl.ports.read 0x0F ||| (if s.usb.irq = true then 0x01#8 else 0x00#8)),
        (Instr.ctrlMiscR obs al, 0x28#7, s.ctrl.ports.read 0x28 ||| 0x08#8),
        (Instr.ctrlPstatusR obs al, 0x3D#7, s.ctrl.protectionStatus)],
      Answers p.1 s (readWatch obs (ctrlAddr p.2.1 al) s.dbg) (.byte p.2.2)) ∧
    (s.ctrl.Inv → s.ctrl.cpuSpeedCode.setWidth 8 &&& 0b11101100#8 = 0#8 ∧
      s.ctrl.batteryReadState ∈ [0x00#8, 0x01#8, 0x03#8, 0x05#8, 0x07#8, 0x09#8, 0x0B#8])

/-- 41_control.md R117, R119, R121, R123: the bytes of the memory-range registers, least significant first. -/
def Obligations.RangeByteReads : Prop :=
  ∀ (s : State) (obs : Bool) (al : BitVec 5), s.Ready →
    ∀ p ∈ [(Instr.ctrlPriv0R obs al, 0x1D#7, s.ctrl.privilegedBoundary.extractLsb' 0 8),
        (Instr.ctrlPriv1R obs al, 0x1E#7, s.ctrl.privilegedBoundary.extractLsb' 8 8),
        (Instr.ctrlPriv2R obs al, 0x1F#7, s.ctrl.privilegedBoundary.extractLsb' 16 8),
        (Instr.ctrlPstart0R obs al, 0x20#7, s.ctrl.protectedStart.extractLsb' 0 8),
        (Instr.ctrlPstart1R obs al, 0x21#7, s.ctrl.protectedStart.extractLsb' 8 8),
        (Instr.ctrlPstart2R obs al, 0x22#7, s.ctrl.protectedStart.extractLsb' 16 8),
        (Instr.ctrlPend0R obs al, 0x23#7, s.ctrl.protectedEnd.extractLsb' 0 8),
        (Instr.ctrlPend1R obs al, 0x24#7, s.ctrl.protectedEnd.extractLsb' 8 8),
        (Instr.ctrlPend2R obs al, 0x25#7, s.ctrl.protectedEnd.extractLsb' 16 8),
        (Instr.ctrlStack0R obs al, 0x3A#7, s.ctrl.stackLimit.extractLsb' 0 8),
        (Instr.ctrlStack1R obs al, 0x3B#7, s.ctrl.stackLimit.extractLsb' 8 8),
        (Instr.ctrlStack2R obs al, 0x3C#7, s.ctrl.stackLimit.extractLsb' 16 8)],
      Answers p.1 s (readWatch obs (ctrlAddr p.2.1 al) s.dbg) (.byte p.2.2)

/-- 41_control.md R103, R105, R112, R116, R126, R128, R132: plain stores; the battery state, the device type and the
protection status stay. -/
def Obligations.ControlStores : Prop :=
  ∀ (s : State) (obs : Bool) (al : BitVec 5) (v : Byte), s.Ready → Memory.wf 256 s.ctrl.ports = true →
    (∀ p ∈ [(Instr.ctrlBattStatusW obs al v, 0x02#7), (Instr.ctrlDevtypeW obs al v, 0x03#7),
        (Instr.ctrlChargeW obs al v, 0x0A#7), (Instr.ctrlUsbMirrorW obs al v, 0x0F#7), (Instr.ctrlMiscW obs al v, 0x28#7),
        (Instr.ctrlPstatusW obs al v, 0x3D#7)],
      frozen obs (ctrlAddr p.2 al) s.dbg = false →
        StoresControl p.1 s p.2.toNat v s.ctrl (writeWatch obs (ctrlAddr p.2 al) s.dbg)) ∧
    ∀ off : BitVec 7, ctrlRegAt off = none → frozen obs (ctrlAddr off al) s.dbg = false →
      StoresControl (.ctrlRawW obs al off v) s off.toNat v s.ctrl (writeWatch obs (ctrlAddr off al) s.dbg)

/-- 41_control.md R118, R120, R122, R124: a byte write replaces its byte of the register at once, keeps the other two, stores
no byte, and checks no order between the bounds. -/
def Obligations.RangeByteWrites : Prop :=
  ∀ (s : State) (obs : Bool) (al : BitVec 5) (v : Byte), s.Ready →
    ∀ p ∈ [
        (Instr.ctrlPriv0W obs al v, 0x1D#7,
          { s.ctrl with privilegedBoundary := s.ctrl.privilegedBoundary.extractLsb' 8 16 ++ v }),
        (Instr.ctrlPriv1W obs al v, 0x1E#7,
          { s.ctrl with privilegedBoundary :=
              s.ctrl.privilegedBoundary.extractLsb' 16 8 ++ v ++ s.ctrl.privilegedBoundary.extractLsb' 0 8 }),
        (Instr.ctrlPriv2W obs al v, 0x1F#7,
          { s.ctrl with privilegedBoundary := v ++ s.ctrl.privilegedBoundary.extractLsb' 0 16 }),
        (Instr.ctrlPstart0W obs al v, 0x20#7,
          { s.ctrl with protectedStart := s.ctrl.protectedStart.extractLsb' 8 16 ++ v }),
        (Instr.ctrlPstart1W obs al v, 0x21#7,
          { s.ctrl with protectedStart :=
              s.ctrl.protectedStart.extractLsb' 16 8 ++ v ++ s.ctrl.protectedStart.extractLsb' 0 8 }),
        (Instr.ctrlPstart2W obs al v, 0x22#7,
          { s.ctrl with protectedStart := v ++ s.ctrl.protectedStart.extractLsb' 0 16 }),
        (Instr.ctrlPend0W obs al v, 0x23#7, { s.ctrl with protectedEnd := s.ctrl.protectedEnd.extractLsb' 8 16 ++ v }),
        (Instr.ctrlPend1W obs al v, 0x24#7,
          { s.ctrl with protectedEnd :=
              s.ctrl.protectedEnd.extractLsb' 16 8 ++ v ++ s.ctrl.protectedEnd.extractLsb' 0 8 }),
        (Instr.ctrlPend2W obs al v, 0x25#7, { s.ctrl with protectedEnd := v ++ s.ctrl.protectedEnd.extractLsb' 0 16 }),
        (Instr.ctrlStack0W obs al v, 0x3A#7, { s.ctrl with stackLimit := s.ctrl.stackLimit.extractLsb' 8 16 ++ v }),
        (Instr.ctrlStack1W obs al v, 0x3B#7,
          { s.ctrl with stackLimit := s.ctrl.stackLimit.extractLsb' 16 8 ++ v ++ s.ctrl.stackLimit.extractLsb' 0 8 }),
        (Instr.ctrlStack2W obs al v, 0x3C#7, { s.ctrl with stackLimit := v ++ s.ctrl.stackLimit.extractLsb' 0 16 })],
      frozen obs (ctrlAddr p.2.1 al) s.dbg = false →
        exec p.1 s = .next { s with ctrl := p.2.2, out := ⟨writeWatch obs (ctrlAddr p.2.1 al) s.dbg, .none⟩ }

/-- 41_control.md R98: the byte is stored whether or not it triggers; with bit 4 set an observable write requests one
reset. -/
def Obligations.ResetTriggerWrite : Prop :=
  ∀ (s : State) (obs : Bool) (al : BitVec 5) (v : Byte), s.Ready → Memory.wf 256 s.ctrl.ports = true →
    frozen obs (ctrlAddr 0x00#7 al) s.dbg = false →
    StoresControl (.ctrlResetW obs al v) s 0x00 v s.ctrl
      (writeWatch obs (ctrlAddr 0x00#7 al) s.dbg ++
        (if v &&& 0x10#8 ≠ 0#8 then resetEvents obs (ctrlAddr 0x00#7 al) s else []))

/-- 41_control.md R100: the speed code and the clock rate, for WR and POKE alike; the array is not written. -/
def Obligations.SpeedWrite : Prop :=
  ∀ (s : State) (obs : Bool) (al : BitVec 5) (v : Byte), s.Ready → frozen obs (ctrlAddr 0x01#7 al) s.dbg = false →
    exec (.ctrlSpeedW obs al v) s = .next { s with
      ctrl := { s.ctrl with cpuSpeedCode := (v &&& 0b10011#8).extractLsb' 0 5 },
      out := ⟨writeWatch obs (ctrlAddr 0x01#7 al) s.dbg ++
        [.setClock (if v.extractLsb' 0 2 = 0#2 then 6000000 else if v.extractLsb' 0 2 = 1#2 then 12000000
          else if v.extractLsb' 0 2 = 2#2 then 24000000 else 48000000)], .none⟩ }

/-- 41_control.md R106: the byte is stored, and bit 7 or bit 4 sets battery state 1, neither sets 0. -/
def Obligations.PowerModeWrite : Prop :=
  ∀ (s : State) (obs : Bool) (al : BitVec 5) (v : Byte), s.Ready → Memory.wf 256 s.ctrl.ports = true →
    frozen obs (ctrlAddr 0x07#7 al) s.dbg = false →
    StoresControl (.ctrlPowerModeW obs al v) s 0x07 v
      { s.ctrl with batteryReadState := if v.getLsbD 7 = true ∨ v.getLsbD 4 = true then 0x01#8 else 0x00#8 }
      (writeWatch obs (ctrlAddr 0x07#7 al) s.dbg)

/-- 41_control.md R108, R109: the byte is stored and the battery machine takes the one step its table gives; whatever the
table does not advance goes to state 0. That a value which is none of the seven states (only a record built by hand holds
one) goes to 0 too is the model's reading of R108 (log 13). -/
def Obligations.HandshakeWrite : Prop :=
  ∀ (s : State) (obs : Bool) (al : BitVec 5) (v : Byte), s.Ready → Memory.wf 256 s.ctrl.ports = true →
    frozen obs (ctrlAddr 0x09#7 al) s.dbg = false →
    ∃ st : Byte,
      StoresControl (.ctrlBattHsW obs al v) s 0x09 v { s.ctrl with batteryReadState := st }
        (writeWatch obs (ctrlAddr 0x09#7 al) s.dbg) ∧
      (st = 0x03#8 ↔ s.ctrl.batteryReadState = 0x01#8 ∧ v = 0x03#8) ∧
      (st = 0x05#8 ↔ s.ctrl.batteryReadState = 0x03#8 ∧ s.ctrl.batterySetLevel ≠ .level0 ∧ v = 0x83#8) ∧
      (st = 0x07#8 ↔ s.ctrl.batteryReadState = 0x05#8 ∧ s.ctrl.batterySetLevel ≠ .level1 ∧ v = 0x03#8) ∧
      (st = 0x09#8 ↔ s.ctrl.batteryReadState = 0x07#8 ∧ s.ctrl.batterySetLevel ≠ .level2 ∧ v = 0x83#8) ∧
      (st = 0x0B#8 ↔ s.ctrl.batteryReadState = 0x09#8 ∧ s.ctrl.batterySetLevel ≠ .level3 ∧ v = 0x03#8) ∧
      st ∈ [0x00#8, 0x03#8, 0x05#8, 0x07#8, 0x09#8, 0x0B#8]

/-- 41_control.md R113: the shutdown code marks the block off, stores 0xD5 and requests a reset; every other value is a plain
store that leaves the mark. -/
def Obligations.ShutdownWrite : Prop :=
  ∀ (s : State) (obs : Bool) (al : BitVec 5) (v : Byte), s.Ready → Memory.wf 256 s.ctrl.ports = true →
    frozen obs (ctrlAddr 0x0C#7 al) s.dbg = false →
    (v = 0xD4#8 → StoresControl (.ctrlShutdownW obs al v) s 0x0C 0xD5#8 { s.ctrl with poweredOff := true }
      (writeWatch obs (ctrlAddr 0x0C#7 al) s.dbg ++ resetEvents obs (ctrlAddr 0x0C#7 al) s)) ∧
    (v ≠ 0xD4#8 → StoresControl (.ctrlShutdownW obs al v) s 0x0C v s.ctrl (writeWatch obs (ctrlAddr 0x0C#7 al) s.dbg))

/-- 41_control.md R129: the flags whose bit is written 1 are cleared and no other; no byte is stored. -/
def Obligations.AcknowledgeWrite : Prop :=
  ∀ (s : State) (obs : Bool) (al : BitVec 5) (v : Byte), s.Ready → frozen obs (ctrlAddr 0x3E#7 al) s.dbg = false →
    ∃ t, exec (.ctrlPackW obs al v) s = .next t ∧
      t = { s with ctrl := { s.ctrl with protectionStatus := t.ctrl.protectionStatus },
                   out := ⟨writeWatch obs (ctrlAddr 0x3E#7 al) s.dbg, .none⟩ } ∧
      ∀ j, t.ctrl.protectionStatus.getLsbD j = (s.ctrl.protectionStatus.getLsbD j && !v.getLsbD j)

/-- 60_exceptions.md R206, R207: exactly two writes request a reset, both observable and not frozen, and each requests it
once. -/
def Obligations.ResetRequestCauses : Prop :=
  ∀ (i : Instr) (s t : State), exec i s = .next t →
    (Event.resetRequest ∈ t.out.events ↔
      (∃ al v, i = .ctrlResetW true al v ∧ v &&& 0x10#8 ≠ 0#8 ∧ frozen true (ctrlAddr 0x00#7 al) s.dbg = false) ∨
      (∃ al, i = .ctrlShutdownW true al 0xD4#8 ∧ frozen true (ctrlAddr 0x0C#7 al) s.dbg = false)) ∧
    t.out.events.count Event.resetRequest ≤ 1

/-- The emitted rate is the rate of the speed code, and the rate never changes without being emitted, but by a restore
(10_state.md R30, 92_eei_decisions.md D16). -/
def Obligations.ClockRateAgrees : Prop :=
  ∀ (i : Instr) (s t : State), exec i s = .next t →
    (∀ r, Event.setClock r ∈ t.out.events → r = clockRateOf t.ctrl.cpuSpeedCode) ∧
    ((∀ snap, i ≠ .sbSnapshotRestore snap) → clockRateOf t.ctrl.cpuSpeedCode ≠ clockRateOf s.ctrl.cpuSpeedCode →
      Event.setClock (clockRateOf t.ctrl.cpuSpeedCode) ∈ t.out.events)

/-- The off mark is set only by the shutdown code and cleared only by cold init; a restore copies it
(10_state.md R29, 60_exceptions.md R217). -/
def Obligations.OffMarkChanges : Prop :=
  ∀ (i : Instr) (s t : State), exec i s = .next t → (∀ snap, i ≠ .sbSnapshotRestore snap) →
    (s.ctrl.poweredOff = false → t.ctrl.poweredOff = true → ∃ obs al, i = .ctrlShutdownW obs al 0xD4#8) ∧
    (s.ctrl.poweredOff = true → t.ctrl.poweredOff = false → i = .sbColdInit)

/-! ### The USBDeviceController -/

/-- 42_usb.md R142, R144, R146, R148, R152, R154, R156, R158, R160, R162, R166, R168, R170: reads that return the stored
byte of their lane, and change nothing; under the invariant of the record (10_state.md R44) the upper lanes of DISG0 and DISG2
return 0x00. -/
def Obligations.UsbStoredReads : Prop :=
  ∀ (s : State) (obs : Bool) (al : BitVec 3) (lane : BitVec 2), s.Ready →
    (∀ p ∈ [(Instr.usbUsbstsR obs al lane, 0x014#9), (Instr.usbUsbintrR obs al lane, 0x018#9),
        (Instr.usbOtgisrR obs al lane, 0x084#9), (Instr.usbOtgierR obs al lane, 0x088#9),
        (Instr.usbGmirR obs al lane, 0x0C4#9), (Instr.usbDcfesrR obs al lane, 0x120#9),
        (Instr.usbDmigrR obs al lane, 0x130#9), (Instr.usbDmisg0R obs al lane, 0x134#9),
        (Instr.usbDmisg1R obs al lane, 0x138#9), (Instr.usbDmisg2R obs al lane, 0x13C#9),
        (Instr.usbDisg0R obs al lane, 0x144#9), (Instr.usbDisg1R obs al lane, 0x148#9),
        (Instr.usbDisg2R obs al lane, 0x14C#9)],
      Answers p.1 s (readWatch obs (laneAddr p.2 lane al) s.dbg) (.byte (s.usb.regs.read (p.2.toNat + lane.toNat)))) ∧
    (s.usb.Inv →
      (lane ≠ 0#2 → Answers (.usbDisg0R obs al lane) s (readWatch obs (laneAddr 0x144#9 lane al) s.dbg) (.byte 0x00#8)) ∧
      (2 ≤ lane.toNat → Answers (.usbDisg2R obs al lane) s (readWatch obs (laneAddr 0x14C#9 lane al) s.dbg) (.byte 0x00#8)))

/-- 42_usb.md R150, R164: the derived registers in lane 0, 0x00 in the others; neither mask hides a bit of them. -/
def Obligations.UsbDerivedReads : Prop :=
  ∀ (s : State) (obs : Bool) (al : BitVec 3) (lane : BitVec 2), s.Ready →
    Answers (.usbGisrR obs al lane) s (readWatch obs (laneAddr 0x0C0#9 lane al) s.dbg)
      (.byte (if lane = 0#2 then
        (BitVec.ofBool s.usb.hostPend ++ BitVec.ofBool s.usb.otgPend ++ BitVec.ofBool s.usb.devPend).setWidth 8
        else 0x00#8)) ∧
    Answers (.usbDigrR obs al lane) s (readWatch obs (laneAddr 0x140#9 lane al) s.dbg)
      (.byte (if lane = 0#2 then
        (BitVec.ofBool s.usb.grp2Pend ++ BitVec.ofBool s.usb.grp1Pend ++ BitVec.ofBool s.usb.grp0Pend).setWidth 8
        else 0x00#8))

/-- 42_usb.md R172: every lane returns the setup byte at the cursor, 0x00 past the eighth; an observable read advances the
cursor up to 8. -/
def Obligations.CxPortRead : Prop :=
  ∀ (s : State) (obs : Bool) (al : BitVec 3) (lane : BitVec 2), s.Ready →
    exec (.usbCxportR obs al lane) s = .next { s with
      usb := { s.usb with
        ep0Index := if obs = true ∧ s.usb.ep0Index < 8 then s.usb.ep0Index + 1 else s.usb.ep0Index },
      out := ⟨readWatch obs (laneAddr 0x1D0#9 lane al) s.dbg,
        .byte (s.usb.ep0Buffer.toList.getD s.usb.ep0Index 0x00#8)⟩ }

/-- 42_usb.md R174, R175, with `USB_UNMODELLED = store`: an offset without a register is plain storage. -/
def Obligations.UsbRawAccess : Prop :=
  ∀ (s : State) (obs : Bool) (al : BitVec 3) (off : BitVec 9) (v : Byte), s.Ready → usbRegAt off = none →
    Answers (.usbRawR obs al off) s (readWatch obs (usbAddr off al) s.dbg) (.byte (s.usb.regs.read off.toNat)) ∧
    (Memory.wf 512 s.usb.regs = true → frozen obs (usbAddr off al) s.dbg = false →
      StoresUsb (.usbRawW obs al off v) s off.toNat v s.usb (writeWatch obs (usbAddr off al) s.dbg))

/-- 42_usb.md R145, R149, R153, R157, R159, R161, R163: the enables and masks are plain stores. -/
def Obligations.UsbStores : Prop :=
  ∀ (s : State) (obs : Bool) (al : BitVec 3) (lane : BitVec 2) (v : Byte), s.Ready → Memory.wf 512 s.usb.regs = true →
    ∀ p ∈ [(Instr.usbUsbintrW obs al lane v, 0x018#9), (Instr.usbOtgierW obs al lane v, 0x088#9),
        (Instr.usbGmirW obs al lane v, 0x0C4#9), (Instr.usbDmigrW obs al lane v, 0x130#9),
        (Instr.usbDmisg0W obs al lane v, 0x134#9), (Instr.usbDmisg1W obs al lane v, 0x138#9),
        (Instr.usbDmisg2W obs al lane v, 0x13C#9)],
      frozen obs (laneAddr p.2 lane al) s.dbg = false →
        StoresUsb p.1 s (p.2.toNat + lane.toNat) v s.usb (writeWatch obs (laneAddr p.2 lane al) s.dbg)

/-- 42_usb.md R143, R147, R167, R169, R171: the status registers, write one to clear and write zero to clear. -/
def Obligations.UsbStatusClears : Prop :=
  ∀ (s : State) (obs : Bool) (al : BitVec 3) (lane : BitVec 2) (v : Byte), s.Ready → Memory.wf 512 s.usb.regs = true →
    (∀ p ∈ [(Instr.usbUsbstsW obs al lane v, 0x014#9), (Instr.usbOtgisrW obs al lane v, 0x084#9)],
      frozen obs (laneAddr p.2 lane al) s.dbg = false →
        StoresUsb p.1 s (p.2.toNat + lane.toNat) (s.usb.regs.read (p.2.toNat + lane.toNat) &&& ~~~v) s.usb
          (writeWatch obs (laneAddr p.2 lane al) s.dbg)) ∧
    ∀ p ∈ [(Instr.usbDisg0W obs al lane v, 0x144#9), (Instr.usbDisg1W obs al lane v, 0x148#9),
        (Instr.usbDisg2W obs al lane v, 0x14C#9)],
      frozen obs (laneAddr p.2 lane al) s.dbg = false →
        StoresUsb p.1 s (p.2.toNat + lane.toNat) (s.usb.regs.read (p.2.toNat + lane.toNat) &&& v) s.usb
          (writeWatch obs (laneAddr p.2 lane al) s.dbg)

/-- 42_usb.md R151, R165, R173: writes of the derived registers and the data port have no effect. -/
def Obligations.UsbIgnoredWrites : Prop :=
  ∀ (s : State) (obs : Bool) (al : BitVec 3) (lane : BitVec 2) (v : Byte), s.Ready →
    ∀ p ∈ [(Instr.usbGisrW obs al lane v, 0x0C0#9), (Instr.usbDigrW obs al lane v, 0x140#9),
        (Instr.usbCxportW obs al lane v, 0x1D0#9)],
      Answers p.1 s (writeWatch obs (laneAddr p.2 lane al) s.dbg) .none

/-- 42_usb.md R155: lane 0 stores all but bit 0, which ends the control transfer and drops the pending view; the other lanes
store. -/
def Obligations.DcfesrWrite : Prop :=
  ∀ (s : State) (obs : Bool) (al : BitVec 3) (v : Byte), s.Ready → Memory.wf 512 s.usb.regs = true →
    (frozen obs (laneAddr 0x120#9 0#2 al) s.dbg = false →
      StoresUsb (.usbDcfesrW obs al 0#2 v) s 0x120 (v &&& 0xFE#8)
        (if v.getLsbD 0 = true then { s.usb with transferState := .idle, pendingLength := 0, pendingBuffer := .null }
         else s.usb)
        (writeWatch obs (laneAddr 0x120#9 0#2 al) s.dbg)) ∧
    ∀ lane : BitVec 2, lane ≠ 0#2 → frozen obs (laneAddr 0x120#9 lane al) s.dbg = false →
      StoresUsb (.usbDcfesrW obs al lane v) s (0x120 + lane.toNat) v s.usb
        (writeWatch obs (laneAddr 0x120#9 lane al) s.dbg)

/-- 42_usb.md R138, R139, bit by bit: the pending conditions, the interrupt output and the summary byte. -/
def Obligations.UsbInterruptLevel : Prop :=
  ∀ u : UsbState,
    (u.grp0Pend = true ↔ ∃ j, j < 8 ∧ (u.regs.read 0x144).getLsbD j = true ∧ (u.regs.read 0x134).getLsbD j = false) ∧
    (u.grp1Pend = true ↔ ∃ n j, n < 4 ∧ j < 8 ∧
      (u.regs.read (0x148 + n)).getLsbD j = true ∧ (u.regs.read (0x138 + n)).getLsbD j = false) ∧
    (u.grp2Pend = true ↔ ∃ n j, n < 2 ∧ j < 8 ∧
      (u.regs.read (0x14C + n)).getLsbD j = true ∧ (u.regs.read (0x13C + n)).getLsbD j = false) ∧
    (u.devPend = true ↔ (u.grp0Pend = true ∧ (u.regs.read 0x130).getLsbD 0 = false) ∨
      (u.grp1Pend = true ∧ (u.regs.read 0x130).getLsbD 1 = false) ∨
      (u.grp2Pend = true ∧ (u.regs.read 0x130).getLsbD 2 = false)) ∧
    (u.otgPend = true ↔ ∃ n j, n < 4 ∧ j < 8 ∧
      (u.regs.read (0x084 + n)).getLsbD j = true ∧ (u.regs.read (0x088 + n)).getLsbD j = true) ∧
    (u.hostPend = true ↔ ∃ j, j < 8 ∧ (u.regs.read 0x014).getLsbD j = true ∧ (u.regs.read 0x018).getLsbD j = true) ∧
    u.gisr = BitVec.ofBool u.hostPend ++ BitVec.ofBool u.otgPend ++ BitVec.ofBool u.devPend ∧
    (u.irq = true ↔ (u.devPend = true ∧ (u.regs.read 0x0C4).getLsbD 0 = false) ∨
      (u.otgPend = true ∧ (u.regs.read 0x0C4).getLsbD 1 = false) ∨
      (u.hostPend = true ∧ (u.regs.read 0x0C4).getLsbD 2 = false)) ∧
    u.status = if u.irq = true then 0x01#8 else 0x00#8

/-- 42_usb.md R177 to R181: the five interrupt entry points mark their bits and notify their class once, with the level after
the update.
Before cold init it faults (60_exceptions.md R203). -/
def Obligations.UsbInterruptEntries : Prop :=
  (∀ s : State, s.initialised = true → Memory.wf 512 s.usb.regs = true →
     (∀ bits : BitVec 8, MarksAndNotifies (.sbUsbHostInt bits) s .host 0x014 1 bits) ∧
     (∀ bits : BitVec 32, MarksAndNotifies (.sbUsbOtgInt bits) s .otg 0x084 4 bits) ∧
     (∀ bits : BitVec 8, MarksAndNotifies (.sbUsbGrp0Int bits) s .grp0 0x144 1 bits) ∧
     (∀ bits : BitVec 32, MarksAndNotifies (.sbUsbGrp1Int bits) s .grp1 0x148 4 bits) ∧
     (∀ bits : BitVec 16, MarksAndNotifies (.sbUsbGrp2Int bits) s .grp2 0x14C 2 bits)) ∧
  (∀ b8 b16 b32, ∀ i ∈ [Instr.sbUsbHostInt b8, .sbUsbOtgInt b32, .sbUsbGrp0Int b8, .sbUsbGrp1Int b32, .sbUsbGrp2Int b16],
    FaultsUninitialised i)

/-- 42_usb.md R182: a setup packet of at least eight bytes is loaded, the pending view dropped, CX_SETUP set and group 0
notified once; a shorter one is ignored.
Before cold init it faults (60_exceptions.md R203). -/
def Obligations.SetupPacket : Prop :=
  (∀ (s : State) (bytes : List Byte), s.initialised = true → Memory.wf 512 s.usb.regs = true →
     (bytes.length < 8 → Answers (.sbUsbSetup bytes) s [] .none) ∧
     (8 ≤ bytes.length → ∃ t, exec (.sbUsbSetup bytes) s = .next t ∧
       t = { s with
         usb := { regs := t.usb.regs, ep0Buffer := t.usb.ep0Buffer, ep0Index := 0, transferState := .setupReceived,
                  pendingBuffer := .null, pendingLength := 0 },
         out := ⟨[.usbNotify .grp0 t.usb.irq], .none⟩ } ∧
       t.usb.ep0Buffer.toList = bytes.take 8 ∧ t.usb.regs.read 0x144 = s.usb.regs.read 0x144 ||| 0x01#8 ∧
       ∀ a, a ≠ 0x144 → t.usb.regs.read a = s.usb.regs.read a)) ∧
  ∀ bytes, FaultsUninitialised (.sbUsbSetup bytes)

/-- 42_usb.md R183 to R185: IN data is queued as a view, and served in chunks of at most 64 bytes until it is drained. The bytes
are those of the caller's memory at the position before it advances, whatever they are (`hostMem` and the draw it counts: the
model's, logs 4 and 5); positions are plain numbers, and the one after the empty view is a free value (`ptrPlus`: the model's,
log 6). A view without data, or another state, serves the empty list and changes
nothing (in DataStage by R185, against the table of R176: log 30).
Before cold init it faults (60_exceptions.md R203). -/
def Obligations.QueueAndServe : Prop :=
  (∀ s : State, s.initialised = true →
     (∀ (buf : HostPtr) (len : Nat), exec (.sbUsbQueueSend buf len) s = .next { s with
       usb := { s.usb with pendingBuffer := buf, pendingLength := len,
                           transferState := if len = 0 then .statusStage else .dataStage },
       out := ⟨[], .none⟩ }) ∧
     (s.usb.transferState = .dataStage → 0 < s.usb.pendingLength →
       exec .sbUsbServeIn s = .next { s with
         usb := { s.usb with
           pendingBuffer := ptrPlus s.usb.pendingBuffer (min s.usb.pendingLength 64),
           pendingLength := s.usb.pendingLength - min s.usb.pendingLength 64,
           transferState := if s.usb.pendingLength ≤ 64 then .statusStage else .dataStage },
         draws := s.draws + 1,
         out := ⟨[], .bytes (hostMem s.draws s.usb.pendingBuffer (min s.usb.pendingLength 64))⟩ }) ∧
     (s.usb.transferState ≠ .dataStage ∨ s.usb.pendingLength = 0 → Answers .sbUsbServeIn s [] (.bytes []))) ∧
  (∀ (moment n : Nat) (p : HostPtr), (hostMem moment p n).length = n ∧
    ∀ i, i < n → (hostMem moment p n)[i]? = some (Config.hostByte moment p i)) ∧
  (∀ q n : Nat, ptrPlus (.pos q) n = .pos (q + n)) ∧
  (∀ buf len, FaultsUninitialised (.sbUsbQueueSend buf len)) ∧ FaultsUninitialised .sbUsbServeIn

/-- 42_usb.md R176, from the other side: only the operations of its table, and a restore, move the endpoint-0 state machine,
and each moves it where the table says. -/
def Obligations.TransferStateChanges : Prop :=
  ∀ (i : Instr) (s t : State), exec i s = .next t → t.usb.transferState ≠ s.usb.transferState →
    (∃ bytes, i = .sbUsbSetup bytes ∧ 8 ≤ bytes.length ∧ t.usb.transferState = .setupReceived) ∨
    (∃ buf len, i = .sbUsbQueueSend buf len ∧ 0 < len ∧ t.usb.transferState = .dataStage) ∨
    (∃ buf, i = .sbUsbQueueSend buf 0 ∧ t.usb.transferState = .statusStage) ∨
    (i = .sbUsbServeIn ∧ s.usb.transferState = .dataStage ∧ s.usb.pendingLength ≤ 64 ∧
      t.usb.transferState = .statusStage) ∨
    (∃ obs al v, i = .usbDcfesrW obs al 0#2 v ∧ v.getLsbD 0 = true ∧ t.usb.transferState = .idle) ∨
    ((i = .sbUsbReset ∨ i = .sbGlobalReset ∨ i = .sbColdInit) ∧ t.usb.transferState = .idle) ∨
    ∃ snap, i = .sbSnapshotRestore snap

/-! ### Side-band operations -/

/-- 10_state.md R41: the value of every field after cold init. -/
def Obligations.ColdInitValues : Prop :=
  State.reset.initialised = true ∧
  (∀ i, State.reset.ctrl.ports.read i = if i = 0x0F then 0x02#8 else 0x00#8) ∧
  State.reset.ctrl.cpuSpeedCode = 0#5 ∧ State.reset.ctrl.batteryReadState = 0x00#8 ∧
  State.reset.ctrl.batterySetLevel = .level4 ∧ State.reset.ctrl.batteryCharging = false ∧
  State.reset.ctrl.privilegedBoundary = 0xFFFFFF#24 ∧ State.reset.ctrl.protectedStart = 0xD1887C#24 ∧
  State.reset.ctrl.protectedEnd = 0xD1887C#24 ∧ State.reset.ctrl.stackLimit = 0x000000#24 ∧
  State.reset.ctrl.protectionStatus = 0x00#8 ∧ State.reset.ctrl.poweredOff = false ∧
  clockRateOf State.reset.ctrl.cpuSpeedCode = 6000000 ∧
  (∀ i, State.reset.usb.regs.read i = 0x00#8) ∧
  State.reset.usb.ep0Buffer.toList = [0#8, 0#8, 0#8, 0#8, 0#8, 0#8, 0#8, 0#8] ∧
  State.reset.usb.ep0Index = 0 ∧ State.reset.usb.transferState = .idle ∧ State.reset.usb.pendingLength = 0 ∧
  State.reset.usb.pendingBuffer = .null

/-- 43_sideband.md R190: cold init, from any state, leaves the block as after reset and emits one `SetClock(6e6)`. That the
debugger's inputs and the model's own fields stay is the model's (DEDUCED log 23). -/
def Obligations.ColdInit : Prop :=
  ∀ s : State, exec .sbColdInit s = .next { State.reset with
    dbg := s.dbg, inputs := s.inputs, draws := s.draws, out := ⟨[.setClock 6000000], .none⟩ }

/-- 43_sideband.md R191: a global reset leaves the cold-init state but for the two environment inputs and the off mark with
its trace, and emits one `SetClock(6e6)`.
Before cold init it faults (60_exceptions.md R203). -/
def Obligations.GlobalReset : Prop :=
  (∀ s : State, s.initialised = true → ∃ t, exec .sbGlobalReset s = .next t ∧
     t = { s with
       ctrl := { State.reset.ctrl with
         ports := t.ctrl.ports, batterySetLevel := s.ctrl.batterySetLevel, batteryCharging := s.ctrl.batteryCharging,
         poweredOff := s.ctrl.poweredOff },
       usb := State.reset.usb, out := ⟨[.setClock 6000000], .none⟩ } ∧
     ∀ a, t.ctrl.ports.read a =
       if a = 0x0F then 0x02#8 else if a = 0x0C ∧ s.ctrl.poweredOff = true then 0x01#8 else 0x00#8) ∧
  FaultsUninitialised .sbGlobalReset

/-- 42_usb.md R187: a controller reset clears all of the USB state and nothing else, with no event.
Before cold init it faults (60_exceptions.md R203). -/
def Obligations.UsbReset : Prop :=
  (∀ s : State, s.initialised = true → exec .sbUsbReset s = .next { s with usb := State.reset.usb, out := ⟨[], .none⟩ }) ∧
  FaultsUninitialised .sbUsbReset

/-- 43_sideband.md R192 to R195: the environment's inputs each change their own field, with no event.
Before cold init it faults (60_exceptions.md R203). -/
def Obligations.EnvironmentInputs : Prop :=
  (∀ s : State, s.initialised = true →
     (∀ bits, exec (.sbLatchViolation bits) s = .next { s with
       ctrl := { s.ctrl with protectionStatus := s.ctrl.protectionStatus ||| bits }, out := ⟨[], .none⟩ }) ∧
     (∀ level, exec (.sbSetBatteryLevel level) s = .next { s with
       ctrl := { s.ctrl with batterySetLevel := level }, out := ⟨[], .none⟩ }) ∧
     (∀ b, exec (.sbSetCharging b) s = .next { s with
       ctrl := { s.ctrl with batteryCharging := b }, out := ⟨[], .none⟩ }) ∧
     (∀ cfg, exec (.sbSetDebugConfig cfg) s = .next { s with dbg := cfg, out := ⟨[], .none⟩ })) ∧
  (∀ bits level b cfg, ∀ i ∈ [Instr.sbLatchViolation bits, .sbSetBatteryLevel level, .sbSetCharging b, .sbSetDebugConfig cfg],
    FaultsUninitialised i)

/-- 41_control.md R133, R134: the privilege check compares unsigned, and with the bounds inverted it is the boundary check
alone.
Before cold init it faults (60_exceptions.md R203). -/
def Obligations.PrivilegeCheck : Prop :=
  (∀ (s : State) (pc : Word24), s.initialised = true →
     Answers (.sbPrivCheck pc) s []
       (.bool (decide (s.ctrl.privilegedBoundary.toNat < pc.toNat) &&
         (decide (pc.toNat < s.ctrl.protectedStart.toNat) || decide (s.ctrl.protectedEnd.toNat < pc.toNat)))) ∧
     (s.ctrl.protectedEnd.toNat < s.ctrl.protectedStart.toNat →
       Answers (.sbPrivCheck pc) s [] (.bool (decide (s.ctrl.privilegedBoundary.toNat < pc.toNat))))) ∧
  ∀ pc, FaultsUninitialised (.sbPrivCheck pc)

/-- 42_usb.md R186, 43_sideband.md R196, R198: the summary byte, the snapshot and the off mark are answered, and nothing
changes.
Before cold init it faults (60_exceptions.md R203). -/
def Obligations.EnvironmentQueries : Prop :=
  (∀ s : State, s.initialised = true →
     Answers .sbUsbStatusSummary s [] (.byte (if s.usb.irq = true then 0x01#8 else 0x00#8)) ∧
     Answers .sbSnapshotSave s [] (.snapshot { layout := .thisSpec, ctrl := s.ctrl, usb := s.usb }) ∧
     Answers .sbPowerState s [] (.bool s.ctrl.poweredOff)) ∧
  ∀ i ∈ [Instr.sbUsbStatusSummary, .sbSnapshotSave, .sbPowerState], FaultsUninitialised i

/-- 43_sideband.md R197: a restore of this spec's layout copies both records and emits nothing; another layout is refused.
Before cold init it faults (60_exceptions.md R203). -/
def Obligations.SnapshotRestore : Prop :=
  (∀ (s : State) (snap : Snapshot), s.initialised = true →
     (snap.layout = .thisSpec → exec (.sbSnapshotRestore snap) s = .next { s with
       ctrl := snap.ctrl, usb := snap.usb, out := ⟨[], .none⟩ }) ∧
     (snap.layout ≠ .thisSpec → exec (.sbSnapshotRestore snap) s = .refused .incompatibleSnapshot)) ∧
  ∀ snap, FaultsUninitialised (.sbSnapshotRestore snap)

/-- 43_sideband.md R199: restoring what a save answered leaves the block as it was, at once or after any steps in between. -/
def Obligations.SnapshotRoundTrip : Prop :=
  ∀ s : State, s.initialised = true → ∃ t snap, exec .sbSnapshotSave s = .next t ∧ t.out.result = .snapshot snap ∧
    (∃ u, exec (.sbSnapshotRestore snap) t = .next u ∧ u = { s with out := u.out }) ∧
    ∀ (n : Nat) (w : State), Host.Core.run Sys2Proof.core n t = .next w →
      ∃ u, exec (.sbSnapshotRestore snap) w = .next u ∧ u.ctrl = s.ctrl ∧ u.usb = s.usb
end

