-- ==== Sys2Proof/Laws/Memory.lean ====
section
/-! SUPPORT. The laws of the byte arrays: what a write does to every read, and that it keeps the canonical form. -/

namespace Sys2Proof.Machine

@[simp] theorem Memory.read_nil (a : Nat) : Memory.read [] a = 0#8 := rfl

theorem Memory.read_cons (b : Nat) (w : Byte) (m : Memory) (a : Nat) :
    Memory.read ((b, w) :: m) a = if a = b then w else Memory.read m a := rfl

/-- Below the first listed address everything reads 0x00. -/
theorem Memory.read_below {size : Nat} (m : Memory) {lo a : Nat} (h : Memory.wfFrom size lo m = true) (ha : a < lo) :
    Memory.read m a = 0#8 := by
  induction m generalizing lo with
  | nil => rfl
  | cons c m ih =>
    obtain ⟨b, w⟩ := c
    simp only [Memory.wfFrom, Bool.and_eq_true, decide_eq_true_eq] at h
    rw [Memory.read_cons, if_neg (by omega), ih h.2 (by omega)]

/-- At or above the array's size everything reads 0x00. -/
theorem Memory.read_above {size : Nat} (m : Memory) {lo a : Nat} (h : Memory.wfFrom size lo m = true) (ha : size ≤ a) :
    Memory.read m a = 0#8 := by
  induction m generalizing lo with
  | nil => rfl
  | cons c m ih =>
    obtain ⟨b, w⟩ := c
    simp only [Memory.wfFrom, Bool.and_eq_true, decide_eq_true_eq] at h
    rw [Memory.read_cons, if_neg (by omega), ih h.2]

/-- A write leaves every other address as it was. -/
theorem Memory.read_write_other (m : Memory) {a b : Nat} (v : Byte) (h : b ≠ a) :
    Memory.read (Memory.write m a v) b = Memory.read m b := by
  induction m with
  | nil =>
    unfold Memory.write
    split_ifs
    · rfl
    · rw [Memory.read_cons, if_neg h]
  | cons c m ih =>
    obtain ⟨d, w⟩ := c
    unfold Memory.write
    split_ifs with had hv hlt hv
    · rw [Memory.read_cons, if_neg (by omega)]
    · rw [Memory.read_cons, if_neg h, Memory.read_cons, if_neg (by omega)]
    · rfl
    · rw [Memory.read_cons, if_neg h]
    · rw [Memory.read_cons, Memory.read_cons, ih]

theorem Memory.read_write_same_from {size : Nat} (m : Memory) {lo : Nat} (h : Memory.wfFrom size lo m = true) (a : Nat)
    (v : Byte) : Memory.read (Memory.write m a v) a = v := by
  induction m generalizing lo with
  | nil => by_cases hv : v = Memory.unlisted <;> simp_all [Memory.write, Memory.read, Memory.unlisted]
  | cons c m ih =>
    obtain ⟨d, w⟩ := c
    simp only [Memory.wfFrom, Bool.and_eq_true, decide_eq_true_eq] at h
    unfold Memory.write
    split_ifs with had hv hlt hv
    · subst had
      rw [Memory.read_below m h.2 (by omega), hv]; rfl
    · simp [Memory.read]
    · rw [Memory.read_cons, if_neg had, Memory.read_below m h.2 (by omega), hv]; rfl
    · simp [Memory.read]
    · rw [Memory.read_cons, if_neg had]; exact ih h.2

/-- A write makes its own address read as what was written. -/
theorem Memory.read_write_same {size : Nat} {m : Memory} (h : Memory.wf size m = true) (a : Nat) (v : Byte) :
    Memory.read (Memory.write m a v) a = v := Memory.read_write_same_from m h a v

/-- Every read after a write. -/
theorem Memory.read_write {size : Nat} {m : Memory} (h : Memory.wf size m = true) (a b : Nat) (v : Byte) :
    Memory.read (Memory.write m a v) b = if b = a then v else Memory.read m b := by
  split_ifs with hb
  · rw [hb]; exact Memory.read_write_same h a v
  · exact Memory.read_write_other m v hb

theorem Memory.wfFrom_mono {size : Nat} (m : Memory) {lo lo' : Nat} (h : Memory.wfFrom size lo m = true) (hl : lo' ≤ lo) :
    Memory.wfFrom size lo' m = true := by
  cases m with
  | nil => rfl
  | cons c m =>
    obtain ⟨b, w⟩ := c
    simp only [Memory.wfFrom, Bool.and_eq_true, decide_eq_true_eq] at h ⊢
    exact ⟨⟨⟨by omega, h.1.1.2⟩, h.1.2⟩, h.2⟩

theorem Memory.wfFrom_write {size : Nat} (m : Memory) {lo a : Nat} (h : Memory.wfFrom size lo m = true) (hlo : lo ≤ a)
    (ha : a < size) (v : Byte) : Memory.wfFrom size lo (Memory.write m a v) = true := by
  induction m generalizing lo with
  | nil =>
    by_cases hv : v = Memory.unlisted <;> simp [Memory.write, Memory.wfFrom, hv, hlo, ha]
  | cons c m ih =>
    obtain ⟨d, w⟩ := c
    have h' := h
    simp only [Memory.wfFrom, Bool.and_eq_true, decide_eq_true_eq] at h
    obtain ⟨⟨⟨h1, h2⟩, h3⟩, h4⟩ := h
    unfold Memory.write
    split_ifs with had hv hlt hv
    · exact Memory.wfFrom_mono m h4 (by omega)
    · simp only [Memory.wfFrom, Bool.and_eq_true, decide_eq_true_eq]
      exact ⟨⟨⟨hlo, ha⟩, hv⟩, by rw [had]; exact h4⟩
    · exact h'
    · simp only [Memory.wfFrom, Bool.and_eq_true, decide_eq_true_eq]
      exact ⟨⟨⟨hlo, ha⟩, hv⟩, ⟨⟨by omega, h2⟩, h3⟩, h4⟩
    · simp only [Memory.wfFrom, Bool.and_eq_true, decide_eq_true_eq]
      exact ⟨⟨⟨h1, h2⟩, h3⟩, ih h4 (by omega)⟩

/-- A write inside the array keeps the canonical form. -/
theorem Memory.wf_write {size : Nat} {m : Memory} (h : Memory.wf size m = true) {a : Nat} (ha : a < size) (v : Byte) :
    Memory.wf size (Memory.write m a v) = true := Memory.wfFrom_write m h (Nat.zero_le a) ha v

/-- Two canonical arrays that read alike everywhere are the same list. -/
theorem Memory.ext_from {size : Nat} (m n : Memory) {lo : Nat} (hm : Memory.wfFrom size lo m = true)
    (hn : Memory.wfFrom size lo n = true) (h : ∀ a, Memory.read m a = Memory.read n a) : m = n := by
  induction m generalizing n lo with
  | nil =>
    cases n with
    | nil => rfl
    | cons c n =>
      obtain ⟨b, w⟩ := c
      simp only [Memory.wfFrom, Bool.and_eq_true, decide_eq_true_eq] at hn
      have := h b
      simp [Memory.read_cons] at this
      exact absurd this.symm hn.1.2
  | cons c m ih =>
    obtain ⟨b, w⟩ := c
    have hm' := hm
    simp only [Memory.wfFrom, Bool.and_eq_true, decide_eq_true_eq] at hm
    cases n with
    | nil =>
      have := h b
      simp [Memory.read_cons] at this
      exact absurd this hm.1.2
    | cons d n =>
      obtain ⟨e, x⟩ := d
      have hn' := hn
      simp only [Memory.wfFrom, Bool.and_eq_true, decide_eq_true_eq] at hn
      have hbe : b = e := by
        rcases Nat.lt_trichotomy b e with hlt | heq | hgt
        · have hb := h b
          rw [Memory.read_cons, if_pos rfl, Memory.read_cons, if_neg (by omega),
            Memory.read_below n hn.2 (by omega)] at hb
          exact absurd hb hm.1.2
        · exact heq
        · have he := h e
          rw [Memory.read_cons, if_neg (by omega), Memory.read_below m hm.2 (by omega), Memory.read_cons,
            if_pos rfl] at he
          exact absurd he.symm hn.1.2
      subst hbe
      have hwx : w = x := by have := h b; simpa [Memory.read_cons] using this
      subst hwx
      congr 1
      refine ih n hm.2 hn.2 (fun a => ?_)
      by_cases ha : a = b
      · subst ha
        rw [Memory.read_below m hm.2 (by omega), Memory.read_below n hn.2 (by omega)]
      · have := h a
        rwa [Memory.read_cons, if_neg ha, Memory.read_cons, if_neg ha] at this

/-- Equal canonical arrays are equal data. -/
theorem Memory.ext {size : Nat} {m n : Memory} (hm : Memory.wf size m = true) (hn : Memory.wf size n = true)
    (h : ∀ a, Memory.read m a = Memory.read n a) : m = n := Memory.ext_from m n hm hn h

end Sys2Proof.Machine
end

