-- ==== Sys2Proof/Laws/Operands.lean ====
section
/-! SUPPORT. The laws of the operand forms: what range and offset an operation's address resolves to, the register maps and
their inverses, byte lanes, and the fields of a transaction word. -/

namespace Sys2Proof.Machine

/-- The bits of a low mask. -/
theorem getLsbD_lowMask (n m i : Nat) : (BitVec.ofNat n (2 ^ m - 1)).getLsbD i = (decide (i < n) && decide (i < m)) := by
  simp [BitVec.getLsbD_ofNat, Nat.testBit_two_pow_sub_one]

/-- The bits of three fields side by side. -/
theorem getLsbD_append3 {a b c : Nat} (x : BitVec a) (y : BitVec b) (z : BitVec c) (i : Nat) :
    (x ++ y ++ z).getLsbD i =
      if i < c then z.getLsbD i else if i < c + b then y.getLsbD (i - c) else x.getLsbD (i - c - b) := by
  rw [BitVec.getLsbD_append]
  by_cases h : i < c
  · simp [h]
  · rw [BitVec.getLsbD_append]
    by_cases h' : i - c < b
    · simp [h, h', show i < c + b by omega]
    · simp [h, h', show ¬ i < c + b by omega]

/-! ### Addresses -/

theorem getLsbD_ctrlAddr (off : BitVec 7) (al : BitVec 5) (i : Nat) :
    (ctrlAddr off al).getLsbD i = if i < 7 then off.getLsbD i else if i < 12 then al.getLsbD (i - 7) else false := by
  rw [show (ctrlAddr off al).getLsbD i = _ from getLsbD_append3 Config.ctrlRange al off i]
  simp [Config.ctrlRange]

theorem getLsbD_usbAddr (off : BitVec 9) (al : BitVec 3) (i : Nat) :
    (usbAddr off al).getLsbD i =
      if i < 9 then off.getLsbD i else if i < 12 then al.getLsbD (i - 9) else (0x3#4).getLsbD (i - 12) := by
  rw [show (usbAddr off al).getLsbD i = _ from getLsbD_append3 Config.usbRange al off i]
  simp [Config.usbRange, Nat.sub_sub]

theorem getLsbD_extAddr (k : RangeNo) (l : Offset) (i : Nat) :
    (extAddr k l).getLsbD i = if i < 12 then l.getLsbD i else k.getLsbD (i - 12) := BitVec.getLsbD_append ..

@[simp] theorem mirror_ctrlRange : mirror 0x0#4 = 0x07F#12 := rfl

@[simp] theorem mirror_usbRange : mirror 0x3#4 = 0x1FF#12 := rfl

@[simp] theorem rangeOf_ctrlAddr (off : BitVec 7) (al : BitVec 5) : rangeOf (ctrlAddr off al) = 0x0#4 := by
  refine BitVec.eq_of_getLsbD_eq (fun i hi => ?_)
  rw [rangeOf, BitVec.getLsbD_extractLsb', getLsbD_ctrlAddr]
  simp; intro; omega

@[simp] theorem rangeOf_usbAddr (off : BitVec 9) (al : BitVec 3) : rangeOf (usbAddr off al) = 0x3#4 := by
  refine BitVec.eq_of_getLsbD_eq (fun i hi => ?_)
  rw [rangeOf, BitVec.getLsbD_extractLsb', getLsbD_usbAddr]
  simp [show ¬ 12 + i < 9 by omega, hi]

@[simp] theorem rangeOf_extAddr (k : RangeNo) (l : Offset) : rangeOf (extAddr k l) = k := by
  refine BitVec.eq_of_getLsbD_eq (fun i hi => ?_)
  rw [rangeOf, BitVec.getLsbD_extractLsb', getLsbD_extAddr]
  simp [hi]

/-- The control device's mirror mask drops the alias bits (30_encoding.md R62). -/
@[simp] theorem offsetOf_ctrlAddr (off : BitVec 7) (al : BitVec 5) : offsetOf (ctrlAddr off al) = off.setWidth 12 := by
  refine BitVec.eq_of_getLsbD_eq (fun i hi => ?_)
  rw [offsetOf, rangeOf_ctrlAddr, show mirror 0x0#4 = BitVec.ofNat 12 (2 ^ 7 - 1) from rfl, BitVec.getLsbD_and,
    getLsbD_lowMask, BitVec.getLsbD_extractLsb', getLsbD_ctrlAddr]
  by_cases h : i < 7
  · simp [h, hi]
  · simp [h, hi, BitVec.getLsbD_of_ge off i (by omega)]

/-- The USB device's mirror mask drops the alias bits (30_encoding.md R62). -/
@[simp] theorem offsetOf_usbAddr (off : BitVec 9) (al : BitVec 3) : offsetOf (usbAddr off al) = off.setWidth 12 := by
  refine BitVec.eq_of_getLsbD_eq (fun i hi => ?_)
  rw [offsetOf, rangeOf_usbAddr, show mirror 0x3#4 = BitVec.ofNat 12 (2 ^ 9 - 1) from rfl, BitVec.getLsbD_and,
    getLsbD_lowMask, BitVec.getLsbD_extractLsb', getLsbD_usbAddr]
  by_cases h : i < 9
  · simp [h, hi]
  · simp [h, hi, BitVec.getLsbD_of_ge off i (by omega)]

/-- The offset an external device observes (40_dispatcher.md R84). -/
@[simp] theorem offsetOf_extAddr (k : RangeNo) (l : Offset) : offsetOf (extAddr k l) = l &&& mirror k := by
  refine BitVec.eq_of_getLsbD_eq (fun i hi => ?_)
  rw [offsetOf, rangeOf_extAddr, BitVec.getLsbD_and, BitVec.getLsbD_and, BitVec.getLsbD_extractLsb', getLsbD_extAddr]
  simp [hi]

@[simp] theorem ctrlAddr_low (off : BitVec 7) (al : BitVec 5) : (ctrlAddr off al).extractLsb' 0 7 = off := by
  refine BitVec.eq_of_getLsbD_eq (fun i hi => ?_)
  rw [BitVec.getLsbD_extractLsb', getLsbD_ctrlAddr]; simp [hi]

@[simp] theorem ctrlAddr_alias (off : BitVec 7) (al : BitVec 5) : (ctrlAddr off al).extractLsb' 7 5 = al := by
  refine BitVec.eq_of_getLsbD_eq (fun i hi => ?_)
  rw [BitVec.getLsbD_extractLsb', getLsbD_ctrlAddr]
  simp [hi, show 7 + i < 12 by omega]

@[simp] theorem usbAddr_low (off : BitVec 9) (al : BitVec 3) : (usbAddr off al).extractLsb' 0 9 = off := by
  refine BitVec.eq_of_getLsbD_eq (fun i hi => ?_)
  rw [BitVec.getLsbD_extractLsb', getLsbD_usbAddr]; simp [hi]

@[simp] theorem usbAddr_alias (off : BitVec 9) (al : BitVec 3) : (usbAddr off al).extractLsb' 9 3 = al := by
  refine BitVec.eq_of_getLsbD_eq (fun i hi => ?_)
  rw [BitVec.getLsbD_extractLsb', getLsbD_usbAddr]
  simp [hi, show 9 + i < 12 by omega]

@[simp] theorem extAddr_low (k : RangeNo) (l : Offset) : (extAddr k l).extractLsb' 0 12 = l := by
  refine BitVec.eq_of_getLsbD_eq (fun i hi => ?_)
  rw [BitVec.getLsbD_extractLsb', getLsbD_extAddr]; simp [hi]

/-- An address is its range and its low bits (30_encoding.md R61). -/
theorem addr_split (a : Addr) : extAddr (rangeOf a) (a.extractLsb' 0 12) = a := by
  refine BitVec.eq_of_getLsbD_eq (fun i hi => ?_)
  rw [getLsbD_extAddr, rangeOf, BitVec.getLsbD_extractLsb', BitVec.getLsbD_extractLsb']
  by_cases h : i < 12
  · simp [h]
  · simp [h, show i - 12 < 4 by omega, show 12 + (i - 12) = i by omega]

/-! ### Register maps -/

@[simp] theorem ctrlRegAt_offset (r : CtrlReg) : ctrlRegAt (ctrlOffset r) = some r := by cases r <;> rfl

theorem ctrlRegAt_eq_some {off : BitVec 7} {r : CtrlReg} (h : ctrlRegAt off = some r) : off = ctrlOffset r := by
  have := List.find?_some h
  simp only [beq_iff_eq] at this
  exact this.symm

theorem ctrlOffset_injective {r r' : CtrlReg} (h : ctrlOffset r = ctrlOffset r') : r = r' := by
  have := ctrlRegAt_offset r
  rw [h, ctrlRegAt_offset] at this
  exact (Option.some.inj this).symm

@[simp] theorem usbRegAt_lane (r : UsbReg) (lane : BitVec 2) : usbRegAt (usbLane r lane) = some r := by
  revert lane; cases r <;> decide

@[simp] theorem usbLane_low (r : UsbReg) (lane : BitVec 2) : (usbLane r lane).extractLsb' 0 2 = lane := by
  revert lane; cases r <;> decide

theorem usbLane_toNat (r : UsbReg) (lane : BitVec 2) : (usbLane r lane).toNat = (usbBase r).toNat + lane.toNat := by
  revert lane; cases r <;> decide

theorem usbRegAt_eq_some {off : BitVec 9} {r : UsbReg} (h : usbRegAt off = some r) :
    off = usbLane r (off.extractLsb' 0 2) := by
  have := List.find?_some h
  simp only [beq_iff_eq] at this
  rw [usbLane, this]
  exact (by decide : ∀ off : BitVec 9, off = off &&& 0x1FC#9 ||| (off.extractLsb' 0 2).setWidth 9) off

/-! ### Byte lanes (00_scope.md R9) -/

theorem byteN_insertN_same (x : Word24) (n : Nat) (hn : n < 3) (b : Byte) : byteN (insertN x n b) n = b := by
  refine BitVec.eq_of_getLsbD_eq (fun i hi => ?_)
  have h : 8 * n + i < 24 := by omega
  simp [byteN, insertN, hi, h]
  interval_cases n <;> interval_cases i <;> simp

theorem byteN_insertN_other (x : Word24) (n m : Nat) (hn : n < 3) (hm : m < 3) (hne : m ≠ n) (b : Byte) :
    byteN (insertN x n b) m = byteN x m := by
  refine BitVec.eq_of_getLsbD_eq (fun i hi => ?_)
  interval_cases n <;> interval_cases m <;> first | contradiction | (interval_cases i <;> simp [byteN, insertN])

theorem join24_bytes (x : Word24) : join24 (byteN x 0) (byteN x 1) (byteN x 2) = x := by
  refine BitVec.eq_of_getLsbD_eq (fun i hi => ?_)
  rw [show (join24 (byteN x 0) (byteN x 1) (byteN x 2)).getLsbD i = _ from getLsbD_append3 (byteN x 2) (byteN x 1) (byteN x 0) i]
  simp only [byteN, BitVec.getLsbD_extractLsb']
  split_ifs with h1 h2
  · simp [h1]
  · simp [show i - 8 < 8 by omega, show 8 * 1 + (i - 8) = i by omega]
  · simp [show i - 8 - 8 < 8 by omega, show 8 * 2 + (i - 8 - 8) = i by omega]

/-! ### Transaction words (30_encoding.md R64, R65) -/

theorem getLsbD_portWord (obs wr : Bool) (addr : Addr) (v : Byte) (i : Nat) :
    (portWord obs wr addr v).getLsbD i =
      if i < 8 then v.getLsbD i else if i < 24 then addr.getLsbD (i - 8)
      else if i = 24 then wr else if i = 25 then !obs else false := by
  rw [show (portWord obs wr addr v).getLsbD i = _ from
    getLsbD_append3 (0#6 ++ BitVec.ofBool (!obs) ++ BitVec.ofBool wr) addr v i]
  rw [getLsbD_append3 0#6 (BitVec.ofBool (!obs)) (BitVec.ofBool wr)]
  split_ifs <;> first | rfl | omega | simp_all

@[simp] theorem portWord_format (obs wr : Bool) (addr : Addr) (v : Byte) : (portWord obs wr addr v)[31] = false := by
  rw [← BitVec.getLsbD_eq_getElem, getLsbD_portWord]; rfl

@[simp] theorem portWord_introspective (obs wr : Bool) (addr : Addr) (v : Byte) :
    (portWord obs wr addr v)[25] = !obs := by
  rw [← BitVec.getLsbD_eq_getElem, getLsbD_portWord]; rfl

@[simp] theorem portWord_write (obs wr : Bool) (addr : Addr) (v : Byte) : (portWord obs wr addr v)[24] = wr := by
  rw [← BitVec.getLsbD_eq_getElem, getLsbD_portWord]; rfl

@[simp] theorem portWord_reserved (obs wr : Bool) (addr : Addr) (v : Byte) :
    (portWord obs wr addr v).extractLsb' 26 5 = 0#5 := by
  refine BitVec.eq_of_getLsbD_eq (fun i hi => ?_)
  rw [BitVec.getLsbD_extractLsb', getLsbD_portWord]
  simp [show ¬ 26 + i < 8 by omega, show ¬ 26 + i < 24 by omega, show ¬ 26 + i = 24 by omega,
    show ¬ 26 + i = 25 by omega]

@[simp] theorem portWord_addr (obs wr : Bool) (addr : Addr) (v : Byte) :
    (portWord obs wr addr v).extractLsb' 8 16 = addr := by
  refine BitVec.eq_of_getLsbD_eq (fun i hi => ?_)
  rw [BitVec.getLsbD_extractLsb', getLsbD_portWord]
  simp [hi, show 8 + i < 24 by omega]

@[simp] theorem portWord_data (obs wr : Bool) (addr : Addr) (v : Byte) : (portWord obs wr addr v).extractLsb' 0 8 = v := by
  refine BitVec.eq_of_getLsbD_eq (fun i hi => ?_)
  rw [BitVec.getLsbD_extractLsb', getLsbD_portWord]
  simp [hi]

/-- A PORT transaction decodes to the operation of its address. -/
@[simp] theorem decode_portTransaction (obs wr : Bool) (addr : Addr) (v : Byte) :
    decode (portTransaction obs wr addr v) = .ok (decodeAccess obs wr addr v) := by
  simp [decode, portTransaction, decodePort]

theorem sbWord_fields (p : SbOp) :
    (sbTransaction p []).word.getLsbD 31 = true ∧ (sbTransaction p []).word.extractLsb' 0 24 = 0#24 ∧
      sbOpAt ((sbTransaction p []).word.extractLsb' 24 7) = some p := by
  cases p <;> decide

/-- A side-band transaction decodes by its operation and its operands. -/
@[simp] theorem decode_sbTransaction (p : SbOp) (l : List Operand) : decode (sbTransaction p l) = decodeSb p l := by
  obtain ⟨h1, h2, h3⟩ := sbWord_fields p
  unfold decode
  rw [show (sbTransaction p l).word = (sbTransaction p []).word from rfl, if_pos h1, if_pos h2, h3]
  rfl

/-! ### Typed operands (30_encoding.md R71) -/

/-- A well-typed list gave the operation. -/
theorem wellTyped_ok {o : Option Instr} {i : Instr} (h : wellTyped o = .ok i) : o = some i := by
  cases o with
  | none => cases h
  | some j => cases h; rfl

/-- What each operand form takes, and what it then gives. -/
theorem takeNone_some {j i : Instr} {l : List Operand} (h : takeNone j l = some i) : l = [] ∧ i = j := by
  unfold takeNone at h; split at h <;> cases h; exact ⟨rfl, rfl⟩

theorem takeU8_some {f : Byte → Instr} {i : Instr} {l : List Operand} (h : takeU8 f l = some i) :
    ∃ v, l = [.u8 v] ∧ i = f v := by
  unfold takeU8 at h; split at h <;> cases h; exact ⟨_, rfl, rfl⟩

theorem takeU16_some {f : BitVec 16 → Instr} {i : Instr} {l : List Operand} (h : takeU16 f l = some i) :
    ∃ v, l = [.u16 v] ∧ i = f v := by
  unfold takeU16 at h; split at h <;> cases h; exact ⟨_, rfl, rfl⟩

theorem takeU24_some {f : Word24 → Instr} {i : Instr} {l : List Operand} (h : takeU24 f l = some i) :
    ∃ v, l = [.u24 v] ∧ i = f v := by
  unfold takeU24 at h; split at h <;> cases h; exact ⟨_, rfl, rfl⟩

theorem takeU32_some {f : Word32 → Instr} {i : Instr} {l : List Operand} (h : takeU32 f l = some i) :
    ∃ v, l = [.u32 v] ∧ i = f v := by
  unfold takeU32 at h; split at h <;> cases h; exact ⟨_, rfl, rfl⟩

theorem takeNat_some {i : Nat} {l : List Operand} (h : takeNat l = some i) : l = [.nat i] := by
  unfold takeNat at h; split at h <;> cases h; rfl

theorem takeBool_some {f : Bool → Instr} {i : Instr} {l : List Operand} (h : takeBool f l = some i) :
    ∃ v, l = [.bool v] ∧ i = f v := by
  unfold takeBool at h; split at h <;> cases h; exact ⟨_, rfl, rfl⟩

theorem takeBytes_some {f : List Byte → Instr} {i : Instr} {l : List Operand} (h : takeBytes f l = some i) :
    ∃ v, l = [.bytes v] ∧ i = f v := by
  unfold takeBytes at h; split at h <;> cases h; exact ⟨_, rfl, rfl⟩

theorem takeView_some {f : HostPtr → Nat → Instr} {i : Instr} {l : List Operand} (h : takeView f l = some i) :
    ∃ p n, l = [.ptr p, .nat n] ∧ i = f p n := by
  unfold takeView at h; split at h <;> cases h; exact ⟨_, _, rfl, rfl⟩

theorem takeDebugConfig_some {f : DebugConfig → Instr} {i : Instr} {l : List Operand} (h : takeDebugConfig f l = some i) :
    ∃ v, l = [.debugConfig v] ∧ DebugConfig.wf v = true ∧ i = f v := by
  unfold takeDebugConfig at h; split at h
  · split_ifs at h with hw; cases h; exact ⟨_, rfl, hw, rfl⟩
  · cases h

theorem takeSnapshot_some {f : Snapshot → Instr} {i : Instr} {l : List Operand} (h : takeSnapshot f l = some i) :
    ∃ v, l = [.snapshot v] ∧ Snapshot.wf v = true ∧ i = f v := by
  unfold takeSnapshot at h; split at h
  · split_ifs at h with hw; cases h; exact ⟨_, rfl, hw, rfl⟩
  · cases h

theorem decodeLevel_ok {i : Instr} {l : List Operand} (h : decodeLevel l = .ok i) :
    ∃ n level, l = [.nat n] ∧ levelOfNat n = some level ∧ i = .sbSetBatteryLevel level := by
  unfold decodeLevel at h
  split at h
  · rename_i n hn
    split at h
    · rename_i level hl; cases h; exact ⟨n, level, takeNat_some hn, hl, rfl⟩
    · cases h
  · cases h

@[simp] theorem levelOfNat_levelToNat (l : BatteryLevel) : levelOfNat (levelToNat l) = some l := by cases l <;> rfl

end Sys2Proof.Machine
end

