-- ==== Sys2Proof/Laws/State.lean ====
section
/-! SUPPORT. One lemma for each field under each update, so that no proof unfolds a record update. -/

namespace Sys2Proof.Machine

@[simp] theorem State.setCtrl_initialised (s : State) (c : CtrlState) : (s.setCtrl c).initialised = s.initialised := rfl
@[simp] theorem State.setCtrl_bus (s : State) (c : CtrlState) : (s.setCtrl c).bus = s.bus := rfl
@[simp] theorem State.setCtrl_ctrl (s : State) (c : CtrlState) : (s.setCtrl c).ctrl = c := rfl
@[simp] theorem State.setCtrl_usb (s : State) (c : CtrlState) : (s.setCtrl c).usb = s.usb := rfl
@[simp] theorem State.setCtrl_dbg (s : State) (c : CtrlState) : (s.setCtrl c).dbg = s.dbg := rfl
@[simp] theorem State.setCtrl_inputs (s : State) (c : CtrlState) : (s.setCtrl c).inputs = s.inputs := rfl
@[simp] theorem State.setCtrl_out (s : State) (c : CtrlState) : (s.setCtrl c).out = s.out := rfl
@[simp] theorem State.setCtrl_draws (s : State) (c : CtrlState) : (s.setCtrl c).draws = s.draws := rfl

@[simp] theorem State.setUsb_initialised (s : State) (u : UsbState) : (s.setUsb u).initialised = s.initialised := rfl
@[simp] theorem State.setUsb_bus (s : State) (u : UsbState) : (s.setUsb u).bus = s.bus := rfl
@[simp] theorem State.setUsb_ctrl (s : State) (u : UsbState) : (s.setUsb u).ctrl = s.ctrl := rfl
@[simp] theorem State.setUsb_usb (s : State) (u : UsbState) : (s.setUsb u).usb = u := rfl
@[simp] theorem State.setUsb_dbg (s : State) (u : UsbState) : (s.setUsb u).dbg = s.dbg := rfl
@[simp] theorem State.setUsb_inputs (s : State) (u : UsbState) : (s.setUsb u).inputs = s.inputs := rfl
@[simp] theorem State.setUsb_out (s : State) (u : UsbState) : (s.setUsb u).out = s.out := rfl
@[simp] theorem State.setUsb_draws (s : State) (u : UsbState) : (s.setUsb u).draws = s.draws := rfl

@[simp] theorem State.setDbg_initialised (s : State) (d : DebugConfig) : (s.setDbg d).initialised = s.initialised := rfl
@[simp] theorem State.setDbg_bus (s : State) (d : DebugConfig) : (s.setDbg d).bus = s.bus := rfl
@[simp] theorem State.setDbg_ctrl (s : State) (d : DebugConfig) : (s.setDbg d).ctrl = s.ctrl := rfl
@[simp] theorem State.setDbg_usb (s : State) (d : DebugConfig) : (s.setDbg d).usb = s.usb := rfl
@[simp] theorem State.setDbg_dbg (s : State) (d : DebugConfig) : (s.setDbg d).dbg = d := rfl
@[simp] theorem State.setDbg_inputs (s : State) (d : DebugConfig) : (s.setDbg d).inputs = s.inputs := rfl
@[simp] theorem State.setDbg_out (s : State) (d : DebugConfig) : (s.setDbg d).out = s.out := rfl
@[simp] theorem State.setDbg_draws (s : State) (d : DebugConfig) : (s.setDbg d).draws = s.draws := rfl

@[simp] theorem State.finish_initialised (s : State) (e : List Event) (r : Result) : (s.finish e r).initialised = s.initialised := rfl
@[simp] theorem State.finish_bus (s : State) (e : List Event) (r : Result) : (s.finish e r).bus = s.bus := rfl
@[simp] theorem State.finish_ctrl (s : State) (e : List Event) (r : Result) : (s.finish e r).ctrl = s.ctrl := rfl
@[simp] theorem State.finish_usb (s : State) (e : List Event) (r : Result) : (s.finish e r).usb = s.usb := rfl
@[simp] theorem State.finish_dbg (s : State) (e : List Event) (r : Result) : (s.finish e r).dbg = s.dbg := rfl
@[simp] theorem State.finish_inputs (s : State) (e : List Event) (r : Result) : (s.finish e r).inputs = s.inputs := rfl
@[simp] theorem State.finish_out (s : State) (e : List Event) (r : Result) : (s.finish e r).out = ⟨e, r⟩ := rfl
@[simp] theorem State.finish_draws (s : State) (e : List Event) (r : Result) : (s.finish e r).draws = s.draws := rfl

@[simp] theorem State.drawn_initialised (s : State) : (s.drawn).initialised = s.initialised := rfl
@[simp] theorem State.drawn_bus (s : State) : (s.drawn).bus = s.bus := rfl
@[simp] theorem State.drawn_ctrl (s : State) : (s.drawn).ctrl = s.ctrl := rfl
@[simp] theorem State.drawn_usb (s : State) : (s.drawn).usb = s.usb := rfl
@[simp] theorem State.drawn_dbg (s : State) : (s.drawn).dbg = s.dbg := rfl
@[simp] theorem State.drawn_inputs (s : State) : (s.drawn).inputs = s.inputs := rfl
@[simp] theorem State.drawn_out (s : State) : (s.drawn).out = s.out := rfl
@[simp] theorem State.drawn_draws (s : State) : (s.drawn).draws = s.draws + 1 := rfl

@[simp] theorem State.enqueue_initialised (s : State) (t : Transaction) : (s.enqueue t).initialised = s.initialised := rfl
@[simp] theorem State.enqueue_bus (s : State) (t : Transaction) : (s.enqueue t).bus = s.bus := rfl
@[simp] theorem State.enqueue_ctrl (s : State) (t : Transaction) : (s.enqueue t).ctrl = s.ctrl := rfl
@[simp] theorem State.enqueue_usb (s : State) (t : Transaction) : (s.enqueue t).usb = s.usb := rfl
@[simp] theorem State.enqueue_dbg (s : State) (t : Transaction) : (s.enqueue t).dbg = s.dbg := rfl
@[simp] theorem State.enqueue_inputs (s : State) (t : Transaction) : (s.enqueue t).inputs = t :: s.inputs := rfl
@[simp] theorem State.enqueue_out (s : State) (t : Transaction) : (s.enqueue t).out = s.out := rfl
@[simp] theorem State.enqueue_draws (s : State) (t : Transaction) : (s.enqueue t).draws = s.draws := rfl

@[simp] theorem State.idle_initialised (s : State) : (s.idle).initialised = s.initialised := rfl
@[simp] theorem State.idle_bus (s : State) : (s.idle).bus = s.bus := rfl
@[simp] theorem State.idle_ctrl (s : State) : (s.idle).ctrl = s.ctrl := rfl
@[simp] theorem State.idle_usb (s : State) : (s.idle).usb = s.usb := rfl
@[simp] theorem State.idle_dbg (s : State) : (s.idle).dbg = s.dbg := rfl
@[simp] theorem State.idle_inputs (s : State) : (s.idle).inputs = s.inputs := rfl
@[simp] theorem State.idle_out (s : State) : (s.idle).out = ⟨[], .none⟩ := rfl
@[simp] theorem State.idle_draws (s : State) : (s.idle).draws = s.draws := rfl

@[simp] theorem coldInit_initialised (s : State) : (coldInit s).initialised = true := rfl
@[simp] theorem coldInit_bus (s : State) : (coldInit s).bus = BusState.bound := rfl
@[simp] theorem coldInit_ctrl (s : State) : (coldInit s).ctrl = CtrlState.coldInit := rfl
@[simp] theorem coldInit_usb (s : State) : (coldInit s).usb = UsbState.cleared := rfl
@[simp] theorem coldInit_dbg (s : State) : (coldInit s).dbg = s.dbg := rfl
@[simp] theorem coldInit_inputs (s : State) : (coldInit s).inputs = s.inputs := rfl
@[simp] theorem coldInit_out (s : State) : (coldInit s).out = s.out := rfl
@[simp] theorem coldInit_draws (s : State) : (coldInit s).draws = s.draws := rfl

@[simp] theorem CtrlState.setPort_ports (c : CtrlState) (i : Nat) (v : Byte) : (c.setPort i v).ports = c.ports.write i v := rfl
@[simp] theorem CtrlState.setPort_cpuSpeedCode (c : CtrlState) (i : Nat) (v : Byte) : (c.setPort i v).cpuSpeedCode = c.cpuSpeedCode := rfl
@[simp] theorem CtrlState.setPort_batteryReadState (c : CtrlState) (i : Nat) (v : Byte) : (c.setPort i v).batteryReadState = c.batteryReadState := rfl
@[simp] theorem CtrlState.setPort_batterySetLevel (c : CtrlState) (i : Nat) (v : Byte) : (c.setPort i v).batterySetLevel = c.batterySetLevel := rfl
@[simp] theorem CtrlState.setPort_batteryCharging (c : CtrlState) (i : Nat) (v : Byte) : (c.setPort i v).batteryCharging = c.batteryCharging := rfl
@[simp] theorem CtrlState.setPort_privilegedBoundary (c : CtrlState) (i : Nat) (v : Byte) : (c.setPort i v).privilegedBoundary = c.privilegedBoundary := rfl
@[simp] theorem CtrlState.setPort_protectedStart (c : CtrlState) (i : Nat) (v : Byte) : (c.setPort i v).protectedStart = c.protectedStart := rfl
@[simp] theorem CtrlState.setPort_protectedEnd (c : CtrlState) (i : Nat) (v : Byte) : (c.setPort i v).protectedEnd = c.protectedEnd := rfl
@[simp] theorem CtrlState.setPort_stackLimit (c : CtrlState) (i : Nat) (v : Byte) : (c.setPort i v).stackLimit = c.stackLimit := rfl
@[simp] theorem CtrlState.setPort_protectionStatus (c : CtrlState) (i : Nat) (v : Byte) : (c.setPort i v).protectionStatus = c.protectionStatus := rfl
@[simp] theorem CtrlState.setPort_poweredOff (c : CtrlState) (i : Nat) (v : Byte) : (c.setPort i v).poweredOff = c.poweredOff := rfl

@[simp] theorem CtrlState.setSpeed_ports (c : CtrlState) (x : BitVec 5) : (c.setSpeed x).ports = c.ports := rfl
@[simp] theorem CtrlState.setSpeed_cpuSpeedCode (c : CtrlState) (x : BitVec 5) : (c.setSpeed x).cpuSpeedCode = x := rfl
@[simp] theorem CtrlState.setSpeed_batteryReadState (c : CtrlState) (x : BitVec 5) : (c.setSpeed x).batteryReadState = c.batteryReadState := rfl
@[simp] theorem CtrlState.setSpeed_batterySetLevel (c : CtrlState) (x : BitVec 5) : (c.setSpeed x).batterySetLevel = c.batterySetLevel := rfl
@[simp] theorem CtrlState.setSpeed_batteryCharging (c : CtrlState) (x : BitVec 5) : (c.setSpeed x).batteryCharging = c.batteryCharging := rfl
@[simp] theorem CtrlState.setSpeed_privilegedBoundary (c : CtrlState) (x : BitVec 5) : (c.setSpeed x).privilegedBoundary = c.privilegedBoundary := rfl
@[simp] theorem CtrlState.setSpeed_protectedStart (c : CtrlState) (x : BitVec 5) : (c.setSpeed x).protectedStart = c.protectedStart := rfl
@[simp] theorem CtrlState.setSpeed_protectedEnd (c : CtrlState) (x : BitVec 5) : (c.setSpeed x).protectedEnd = c.protectedEnd := rfl
@[simp] theorem CtrlState.setSpeed_stackLimit (c : CtrlState) (x : BitVec 5) : (c.setSpeed x).stackLimit = c.stackLimit := rfl
@[simp] theorem CtrlState.setSpeed_protectionStatus (c : CtrlState) (x : BitVec 5) : (c.setSpeed x).protectionStatus = c.protectionStatus := rfl
@[simp] theorem CtrlState.setSpeed_poweredOff (c : CtrlState) (x : BitVec 5) : (c.setSpeed x).poweredOff = c.poweredOff := rfl

@[simp] theorem CtrlState.setBattery_ports (c : CtrlState) (x : Byte) : (c.setBattery x).ports = c.ports := rfl
@[simp] theorem CtrlState.setBattery_cpuSpeedCode (c : CtrlState) (x : Byte) : (c.setBattery x).cpuSpeedCode = c.cpuSpeedCode := rfl
@[simp] theorem CtrlState.setBattery_batteryReadState (c : CtrlState) (x : Byte) : (c.setBattery x).batteryReadState = x := rfl
@[simp] theorem CtrlState.setBattery_batterySetLevel (c : CtrlState) (x : Byte) : (c.setBattery x).batterySetLevel = c.batterySetLevel := rfl
@[simp] theorem CtrlState.setBattery_batteryCharging (c : CtrlState) (x : Byte) : (c.setBattery x).batteryCharging = c.batteryCharging := rfl
@[simp] theorem CtrlState.setBattery_privilegedBoundary (c : CtrlState) (x : Byte) : (c.setBattery x).privilegedBoundary = c.privilegedBoundary := rfl
@[simp] theorem CtrlState.setBattery_protectedStart (c : CtrlState) (x : Byte) : (c.setBattery x).protectedStart = c.protectedStart := rfl
@[simp] theorem CtrlState.setBattery_protectedEnd (c : CtrlState) (x : Byte) : (c.setBattery x).protectedEnd = c.protectedEnd := rfl
@[simp] theorem CtrlState.setBattery_stackLimit (c : CtrlState) (x : Byte) : (c.setBattery x).stackLimit = c.stackLimit := rfl
@[simp] theorem CtrlState.setBattery_protectionStatus (c : CtrlState) (x : Byte) : (c.setBattery x).protectionStatus = c.protectionStatus := rfl
@[simp] theorem CtrlState.setBattery_poweredOff (c : CtrlState) (x : Byte) : (c.setBattery x).poweredOff = c.poweredOff := rfl

@[simp] theorem CtrlState.setLevel_ports (c : CtrlState) (x : BatteryLevel) : (c.setLevel x).ports = c.ports := rfl
@[simp] theorem CtrlState.setLevel_cpuSpeedCode (c : CtrlState) (x : BatteryLevel) : (c.setLevel x).cpuSpeedCode = c.cpuSpeedCode := rfl
@[simp] theorem CtrlState.setLevel_batteryReadState (c : CtrlState) (x : BatteryLevel) : (c.setLevel x).batteryReadState = c.batteryReadState := rfl
@[simp] theorem CtrlState.setLevel_batterySetLevel (c : CtrlState) (x : BatteryLevel) : (c.setLevel x).batterySetLevel = x := rfl
@[simp] theorem CtrlState.setLevel_batteryCharging (c : CtrlState) (x : BatteryLevel) : (c.setLevel x).batteryCharging = c.batteryCharging := rfl
@[simp] theorem CtrlState.setLevel_privilegedBoundary (c : CtrlState) (x : BatteryLevel) : (c.setLevel x).privilegedBoundary = c.privilegedBoundary := rfl
@[simp] theorem CtrlState.setLevel_protectedStart (c : CtrlState) (x : BatteryLevel) : (c.setLevel x).protectedStart = c.protectedStart := rfl
@[simp] theorem CtrlState.setLevel_protectedEnd (c : CtrlState) (x : BatteryLevel) : (c.setLevel x).protectedEnd = c.protectedEnd := rfl
@[simp] theorem CtrlState.setLevel_stackLimit (c : CtrlState) (x : BatteryLevel) : (c.setLevel x).stackLimit = c.stackLimit := rfl
@[simp] theorem CtrlState.setLevel_protectionStatus (c : CtrlState) (x : BatteryLevel) : (c.setLevel x).protectionStatus = c.protectionStatus := rfl
@[simp] theorem CtrlState.setLevel_poweredOff (c : CtrlState) (x : BatteryLevel) : (c.setLevel x).poweredOff = c.poweredOff := rfl

@[simp] theorem CtrlState.setCharging_ports (c : CtrlState) (x : Bool) : (c.setCharging x).ports = c.ports := rfl
@[simp] theorem CtrlState.setCharging_cpuSpeedCode (c : CtrlState) (x : Bool) : (c.setCharging x).cpuSpeedCode = c.cpuSpeedCode := rfl
@[simp] theorem CtrlState.setCharging_batteryReadState (c : CtrlState) (x : Bool) : (c.setCharging x).batteryReadState = c.batteryReadState := rfl
@[simp] theorem CtrlState.setCharging_batterySetLevel (c : CtrlState) (x : Bool) : (c.setCharging x).batterySetLevel = c.batterySetLevel := rfl
@[simp] theorem CtrlState.setCharging_batteryCharging (c : CtrlState) (x : Bool) : (c.setCharging x).batteryCharging = x := rfl
@[simp] theorem CtrlState.setCharging_privilegedBoundary (c : CtrlState) (x : Bool) : (c.setCharging x).privilegedBoundary = c.privilegedBoundary := rfl
@[simp] theorem CtrlState.setCharging_protectedStart (c : CtrlState) (x : Bool) : (c.setCharging x).protectedStart = c.protectedStart := rfl
@[simp] theorem CtrlState.setCharging_protectedEnd (c : CtrlState) (x : Bool) : (c.setCharging x).protectedEnd = c.protectedEnd := rfl
@[simp] theorem CtrlState.setCharging_stackLimit (c : CtrlState) (x : Bool) : (c.setCharging x).stackLimit = c.stackLimit := rfl
@[simp] theorem CtrlState.setCharging_protectionStatus (c : CtrlState) (x : Bool) : (c.setCharging x).protectionStatus = c.protectionStatus := rfl
@[simp] theorem CtrlState.setCharging_poweredOff (c : CtrlState) (x : Bool) : (c.setCharging x).poweredOff = c.poweredOff := rfl

@[simp] theorem CtrlState.setPriv_ports (c : CtrlState) (x : Word24) : (c.setPriv x).ports = c.ports := rfl
@[simp] theorem CtrlState.setPriv_cpuSpeedCode (c : CtrlState) (x : Word24) : (c.setPriv x).cpuSpeedCode = c.cpuSpeedCode := rfl
@[simp] theorem CtrlState.setPriv_batteryReadState (c : CtrlState) (x : Word24) : (c.setPriv x).batteryReadState = c.batteryReadState := rfl
@[simp] theorem CtrlState.setPriv_batterySetLevel (c : CtrlState) (x : Word24) : (c.setPriv x).batterySetLevel = c.batterySetLevel := rfl
@[simp] theorem CtrlState.setPriv_batteryCharging (c : CtrlState) (x : Word24) : (c.setPriv x).batteryCharging = c.batteryCharging := rfl
@[simp] theorem CtrlState.setPriv_privilegedBoundary (c : CtrlState) (x : Word24) : (c.setPriv x).privilegedBoundary = x := rfl
@[simp] theorem CtrlState.setPriv_protectedStart (c : CtrlState) (x : Word24) : (c.setPriv x).protectedStart = c.protectedStart := rfl
@[simp] theorem CtrlState.setPriv_protectedEnd (c : CtrlState) (x : Word24) : (c.setPriv x).protectedEnd = c.protectedEnd := rfl
@[simp] theorem CtrlState.setPriv_stackLimit (c : CtrlState) (x : Word24) : (c.setPriv x).stackLimit = c.stackLimit := rfl
@[simp] theorem CtrlState.setPriv_protectionStatus (c : CtrlState) (x : Word24) : (c.setPriv x).protectionStatus = c.protectionStatus := rfl
@[simp] theorem CtrlState.setPriv_poweredOff (c : CtrlState) (x : Word24) : (c.setPriv x).poweredOff = c.poweredOff := rfl

@[simp] theorem CtrlState.setPstart_ports (c : CtrlState) (x : Word24) : (c.setPstart x).ports = c.ports := rfl
@[simp] theorem CtrlState.setPstart_cpuSpeedCode (c : CtrlState) (x : Word24) : (c.setPstart x).cpuSpeedCode = c.cpuSpeedCode := rfl
@[simp] theorem CtrlState.setPstart_batteryReadState (c : CtrlState) (x : Word24) : (c.setPstart x).batteryReadState = c.batteryReadState := rfl
@[simp] theorem CtrlState.setPstart_batterySetLevel (c : CtrlState) (x : Word24) : (c.setPstart x).batterySetLevel = c.batterySetLevel := rfl
@[simp] theorem CtrlState.setPstart_batteryCharging (c : CtrlState) (x : Word24) : (c.setPstart x).batteryCharging = c.batteryCharging := rfl
@[simp] theorem CtrlState.setPstart_privilegedBoundary (c : CtrlState) (x : Word24) : (c.setPstart x).privilegedBoundary = c.privilegedBoundary := rfl
@[simp] theorem CtrlState.setPstart_protectedStart (c : CtrlState) (x : Word24) : (c.setPstart x).protectedStart = x := rfl
@[simp] theorem CtrlState.setPstart_protectedEnd (c : CtrlState) (x : Word24) : (c.setPstart x).protectedEnd = c.protectedEnd := rfl
@[simp] theorem CtrlState.setPstart_stackLimit (c : CtrlState) (x : Word24) : (c.setPstart x).stackLimit = c.stackLimit := rfl
@[simp] theorem CtrlState.setPstart_protectionStatus (c : CtrlState) (x : Word24) : (c.setPstart x).protectionStatus = c.protectionStatus := rfl
@[simp] theorem CtrlState.setPstart_poweredOff (c : CtrlState) (x : Word24) : (c.setPstart x).poweredOff = c.poweredOff := rfl

@[simp] theorem CtrlState.setPend_ports (c : CtrlState) (x : Word24) : (c.setPend x).ports = c.ports := rfl
@[simp] theorem CtrlState.setPend_cpuSpeedCode (c : CtrlState) (x : Word24) : (c.setPend x).cpuSpeedCode = c.cpuSpeedCode := rfl
@[simp] theorem CtrlState.setPend_batteryReadState (c : CtrlState) (x : Word24) : (c.setPend x).batteryReadState = c.batteryReadState := rfl
@[simp] theorem CtrlState.setPend_batterySetLevel (c : CtrlState) (x : Word24) : (c.setPend x).batterySetLevel = c.batterySetLevel := rfl
@[simp] theorem CtrlState.setPend_batteryCharging (c : CtrlState) (x : Word24) : (c.setPend x).batteryCharging = c.batteryCharging := rfl
@[simp] theorem CtrlState.setPend_privilegedBoundary (c : CtrlState) (x : Word24) : (c.setPend x).privilegedBoundary = c.privilegedBoundary := rfl
@[simp] theorem CtrlState.setPend_protectedStart (c : CtrlState) (x : Word24) : (c.setPend x).protectedStart = c.protectedStart := rfl
@[simp] theorem CtrlState.setPend_protectedEnd (c : CtrlState) (x : Word24) : (c.setPend x).protectedEnd = x := rfl
@[simp] theorem CtrlState.setPend_stackLimit (c : CtrlState) (x : Word24) : (c.setPend x).stackLimit = c.stackLimit := rfl
@[simp] theorem CtrlState.setPend_protectionStatus (c : CtrlState) (x : Word24) : (c.setPend x).protectionStatus = c.protectionStatus := rfl
@[simp] theorem CtrlState.setPend_poweredOff (c : CtrlState) (x : Word24) : (c.setPend x).poweredOff = c.poweredOff := rfl

@[simp] theorem CtrlState.setStack_ports (c : CtrlState) (x : Word24) : (c.setStack x).ports = c.ports := rfl
@[simp] theorem CtrlState.setStack_cpuSpeedCode (c : CtrlState) (x : Word24) : (c.setStack x).cpuSpeedCode = c.cpuSpeedCode := rfl
@[simp] theorem CtrlState.setStack_batteryReadState (c : CtrlState) (x : Word24) : (c.setStack x).batteryReadState = c.batteryReadState := rfl
@[simp] theorem CtrlState.setStack_batterySetLevel (c : CtrlState) (x : Word24) : (c.setStack x).batterySetLevel = c.batterySetLevel := rfl
@[simp] theorem CtrlState.setStack_batteryCharging (c : CtrlState) (x : Word24) : (c.setStack x).batteryCharging = c.batteryCharging := rfl
@[simp] theorem CtrlState.setStack_privilegedBoundary (c : CtrlState) (x : Word24) : (c.setStack x).privilegedBoundary = c.privilegedBoundary := rfl
@[simp] theorem CtrlState.setStack_protectedStart (c : CtrlState) (x : Word24) : (c.setStack x).protectedStart = c.protectedStart := rfl
@[simp] theorem CtrlState.setStack_protectedEnd (c : CtrlState) (x : Word24) : (c.setStack x).protectedEnd = c.protectedEnd := rfl
@[simp] theorem CtrlState.setStack_stackLimit (c : CtrlState) (x : Word24) : (c.setStack x).stackLimit = x := rfl
@[simp] theorem CtrlState.setStack_protectionStatus (c : CtrlState) (x : Word24) : (c.setStack x).protectionStatus = c.protectionStatus := rfl
@[simp] theorem CtrlState.setStack_poweredOff (c : CtrlState) (x : Word24) : (c.setStack x).poweredOff = c.poweredOff := rfl

@[simp] theorem CtrlState.setStatus_ports (c : CtrlState) (x : Byte) : (c.setStatus x).ports = c.ports := rfl
@[simp] theorem CtrlState.setStatus_cpuSpeedCode (c : CtrlState) (x : Byte) : (c.setStatus x).cpuSpeedCode = c.cpuSpeedCode := rfl
@[simp] theorem CtrlState.setStatus_batteryReadState (c : CtrlState) (x : Byte) : (c.setStatus x).batteryReadState = c.batteryReadState := rfl
@[simp] theorem CtrlState.setStatus_batterySetLevel (c : CtrlState) (x : Byte) : (c.setStatus x).batterySetLevel = c.batterySetLevel := rfl
@[simp] theorem CtrlState.setStatus_batteryCharging (c : CtrlState) (x : Byte) : (c.setStatus x).batteryCharging = c.batteryCharging := rfl
@[simp] theorem CtrlState.setStatus_privilegedBoundary (c : CtrlState) (x : Byte) : (c.setStatus x).privilegedBoundary = c.privilegedBoundary := rfl
@[simp] theorem CtrlState.setStatus_protectedStart (c : CtrlState) (x : Byte) : (c.setStatus x).protectedStart = c.protectedStart := rfl
@[simp] theorem CtrlState.setStatus_protectedEnd (c : CtrlState) (x : Byte) : (c.setStatus x).protectedEnd = c.protectedEnd := rfl
@[simp] theorem CtrlState.setStatus_stackLimit (c : CtrlState) (x : Byte) : (c.setStatus x).stackLimit = c.stackLimit := rfl
@[simp] theorem CtrlState.setStatus_protectionStatus (c : CtrlState) (x : Byte) : (c.setStatus x).protectionStatus = x := rfl
@[simp] theorem CtrlState.setStatus_poweredOff (c : CtrlState) (x : Byte) : (c.setStatus x).poweredOff = c.poweredOff := rfl

@[simp] theorem CtrlState.setOff_ports (c : CtrlState) (x : Bool) : (c.setOff x).ports = c.ports := rfl
@[simp] theorem CtrlState.setOff_cpuSpeedCode (c : CtrlState) (x : Bool) : (c.setOff x).cpuSpeedCode = c.cpuSpeedCode := rfl
@[simp] theorem CtrlState.setOff_batteryReadState (c : CtrlState) (x : Bool) : (c.setOff x).batteryReadState = c.batteryReadState := rfl
@[simp] theorem CtrlState.setOff_batterySetLevel (c : CtrlState) (x : Bool) : (c.setOff x).batterySetLevel = c.batterySetLevel := rfl
@[simp] theorem CtrlState.setOff_batteryCharging (c : CtrlState) (x : Bool) : (c.setOff x).batteryCharging = c.batteryCharging := rfl
@[simp] theorem CtrlState.setOff_privilegedBoundary (c : CtrlState) (x : Bool) : (c.setOff x).privilegedBoundary = c.privilegedBoundary := rfl
@[simp] theorem CtrlState.setOff_protectedStart (c : CtrlState) (x : Bool) : (c.setOff x).protectedStart = c.protectedStart := rfl
@[simp] theorem CtrlState.setOff_protectedEnd (c : CtrlState) (x : Bool) : (c.setOff x).protectedEnd = c.protectedEnd := rfl
@[simp] theorem CtrlState.setOff_stackLimit (c : CtrlState) (x : Bool) : (c.setOff x).stackLimit = c.stackLimit := rfl
@[simp] theorem CtrlState.setOff_protectionStatus (c : CtrlState) (x : Bool) : (c.setOff x).protectionStatus = c.protectionStatus := rfl
@[simp] theorem CtrlState.setOff_poweredOff (c : CtrlState) (x : Bool) : (c.setOff x).poweredOff = x := rfl

@[simp] theorem CtrlState.storePort_ports (c : CtrlState) (r : CtrlReg) (v : Byte) : (c.storePort r v).ports = c.ports.write (ctrlOffset r).toNat v := rfl
@[simp] theorem CtrlState.storePort_cpuSpeedCode (c : CtrlState) (r : CtrlReg) (v : Byte) : (c.storePort r v).cpuSpeedCode = c.cpuSpeedCode := rfl
@[simp] theorem CtrlState.storePort_batteryReadState (c : CtrlState) (r : CtrlReg) (v : Byte) : (c.storePort r v).batteryReadState = c.batteryReadState := rfl
@[simp] theorem CtrlState.storePort_batterySetLevel (c : CtrlState) (r : CtrlReg) (v : Byte) : (c.storePort r v).batterySetLevel = c.batterySetLevel := rfl
@[simp] theorem CtrlState.storePort_batteryCharging (c : CtrlState) (r : CtrlReg) (v : Byte) : (c.storePort r v).batteryCharging = c.batteryCharging := rfl
@[simp] theorem CtrlState.storePort_privilegedBoundary (c : CtrlState) (r : CtrlReg) (v : Byte) : (c.storePort r v).privilegedBoundary = c.privilegedBoundary := rfl
@[simp] theorem CtrlState.storePort_protectedStart (c : CtrlState) (r : CtrlReg) (v : Byte) : (c.storePort r v).protectedStart = c.protectedStart := rfl
@[simp] theorem CtrlState.storePort_protectedEnd (c : CtrlState) (r : CtrlReg) (v : Byte) : (c.storePort r v).protectedEnd = c.protectedEnd := rfl
@[simp] theorem CtrlState.storePort_stackLimit (c : CtrlState) (r : CtrlReg) (v : Byte) : (c.storePort r v).stackLimit = c.stackLimit := rfl
@[simp] theorem CtrlState.storePort_protectionStatus (c : CtrlState) (r : CtrlReg) (v : Byte) : (c.storePort r v).protectionStatus = c.protectionStatus := rfl
@[simp] theorem CtrlState.storePort_poweredOff (c : CtrlState) (r : CtrlReg) (v : Byte) : (c.storePort r v).poweredOff = c.poweredOff := rfl

@[simp] theorem UsbState.setReg_regs (u : UsbState) (i : Nat) (v : Byte) : (u.setReg i v).regs = u.regs.write i v := rfl
@[simp] theorem UsbState.setReg_ep0Buffer (u : UsbState) (i : Nat) (v : Byte) : (u.setReg i v).ep0Buffer = u.ep0Buffer := rfl
@[simp] theorem UsbState.setReg_ep0Index (u : UsbState) (i : Nat) (v : Byte) : (u.setReg i v).ep0Index = u.ep0Index := rfl
@[simp] theorem UsbState.setReg_transferState (u : UsbState) (i : Nat) (v : Byte) : (u.setReg i v).transferState = u.transferState := rfl
@[simp] theorem UsbState.setReg_pendingBuffer (u : UsbState) (i : Nat) (v : Byte) : (u.setReg i v).pendingBuffer = u.pendingBuffer := rfl
@[simp] theorem UsbState.setReg_pendingLength (u : UsbState) (i : Nat) (v : Byte) : (u.setReg i v).pendingLength = u.pendingLength := rfl

@[simp] theorem UsbState.setBuffer_regs (u : UsbState) (x : Vector Byte 8) : (u.setBuffer x).regs = u.regs := rfl
@[simp] theorem UsbState.setBuffer_ep0Buffer (u : UsbState) (x : Vector Byte 8) : (u.setBuffer x).ep0Buffer = x := rfl
@[simp] theorem UsbState.setBuffer_ep0Index (u : UsbState) (x : Vector Byte 8) : (u.setBuffer x).ep0Index = u.ep0Index := rfl
@[simp] theorem UsbState.setBuffer_transferState (u : UsbState) (x : Vector Byte 8) : (u.setBuffer x).transferState = u.transferState := rfl
@[simp] theorem UsbState.setBuffer_pendingBuffer (u : UsbState) (x : Vector Byte 8) : (u.setBuffer x).pendingBuffer = u.pendingBuffer := rfl
@[simp] theorem UsbState.setBuffer_pendingLength (u : UsbState) (x : Vector Byte 8) : (u.setBuffer x).pendingLength = u.pendingLength := rfl

@[simp] theorem UsbState.setIndex_regs (u : UsbState) (x : Nat) : (u.setIndex x).regs = u.regs := rfl
@[simp] theorem UsbState.setIndex_ep0Buffer (u : UsbState) (x : Nat) : (u.setIndex x).ep0Buffer = u.ep0Buffer := rfl
@[simp] theorem UsbState.setIndex_ep0Index (u : UsbState) (x : Nat) : (u.setIndex x).ep0Index = x := rfl
@[simp] theorem UsbState.setIndex_transferState (u : UsbState) (x : Nat) : (u.setIndex x).transferState = u.transferState := rfl
@[simp] theorem UsbState.setIndex_pendingBuffer (u : UsbState) (x : Nat) : (u.setIndex x).pendingBuffer = u.pendingBuffer := rfl
@[simp] theorem UsbState.setIndex_pendingLength (u : UsbState) (x : Nat) : (u.setIndex x).pendingLength = u.pendingLength := rfl

@[simp] theorem UsbState.setTransfer_regs (u : UsbState) (x : TransferState) : (u.setTransfer x).regs = u.regs := rfl
@[simp] theorem UsbState.setTransfer_ep0Buffer (u : UsbState) (x : TransferState) : (u.setTransfer x).ep0Buffer = u.ep0Buffer := rfl
@[simp] theorem UsbState.setTransfer_ep0Index (u : UsbState) (x : TransferState) : (u.setTransfer x).ep0Index = u.ep0Index := rfl
@[simp] theorem UsbState.setTransfer_transferState (u : UsbState) (x : TransferState) : (u.setTransfer x).transferState = x := rfl
@[simp] theorem UsbState.setTransfer_pendingBuffer (u : UsbState) (x : TransferState) : (u.setTransfer x).pendingBuffer = u.pendingBuffer := rfl
@[simp] theorem UsbState.setTransfer_pendingLength (u : UsbState) (x : TransferState) : (u.setTransfer x).pendingLength = u.pendingLength := rfl

@[simp] theorem UsbState.setPending_regs (u : UsbState) (p : HostPtr) (n : Nat) : (u.setPending p n).regs = u.regs := rfl
@[simp] theorem UsbState.setPending_ep0Buffer (u : UsbState) (p : HostPtr) (n : Nat) : (u.setPending p n).ep0Buffer = u.ep0Buffer := rfl
@[simp] theorem UsbState.setPending_ep0Index (u : UsbState) (p : HostPtr) (n : Nat) : (u.setPending p n).ep0Index = u.ep0Index := rfl
@[simp] theorem UsbState.setPending_transferState (u : UsbState) (p : HostPtr) (n : Nat) : (u.setPending p n).transferState = u.transferState := rfl
@[simp] theorem UsbState.setPending_pendingBuffer (u : UsbState) (p : HostPtr) (n : Nat) : (u.setPending p n).pendingBuffer = p := rfl
@[simp] theorem UsbState.setPending_pendingLength (u : UsbState) (p : HostPtr) (n : Nat) : (u.setPending p n).pendingLength = n := rfl

@[simp] theorem UsbState.cxDone_regs (u : UsbState) : (u.cxDone).regs = u.regs := rfl
@[simp] theorem UsbState.cxDone_ep0Buffer (u : UsbState) : (u.cxDone).ep0Buffer = u.ep0Buffer := rfl
@[simp] theorem UsbState.cxDone_ep0Index (u : UsbState) : (u.cxDone).ep0Index = u.ep0Index := rfl
@[simp] theorem UsbState.cxDone_transferState (u : UsbState) : (u.cxDone).transferState = .idle := rfl
@[simp] theorem UsbState.cxDone_pendingBuffer (u : UsbState) : (u.cxDone).pendingBuffer = .null := rfl
@[simp] theorem UsbState.cxDone_pendingLength (u : UsbState) : (u.cxDone).pendingLength = 0 := rfl

end Sys2Proof.Machine
end

