-- ==== Sys2Proof/Laws/Ops.lean ====
section
/-! SUPPORT. What each shared operation can do, said once: when a port access or a side-band operation answers a next state and
which, when it faults, and that it never refuses. -/

namespace Sys2Proof.Machine

/-! ### Resolution -/

theorem handler_bound_or_unbound (s : State) (k : RangeNo) : s.handler k = deviceOf k ∨ s.handler k = .unbound := by
  unfold State.handler
  cases s.bus.binding.get k.toFin <;> simp

theorem deviceOf_ne_unbound (k : RangeNo) : deviceOf k ≠ .unbound := by
  unfold deviceOf; split_ifs <;> simp

theorem resolve_eq_ok {s : State} {addr : Addr} (h : s.handler (rangeOf addr) ≠ .unbound) :
    resolve s addr = .ok (rangeOf addr, offsetOf addr) := if_neg h

theorem resolve_eq_error {s : State} {addr : Addr} (h : s.handler (rangeOf addr) = .unbound) :
    resolve s addr = .error (.unboundRange (rangeOf addr)) := if_pos h

/-- The handler depends on the handler table alone. -/
theorem handler_congr {s t : State} (h : s.bus = t.bus) (k : RangeNo) : s.handler k = t.handler k := by
  unfold State.handler; rw [h]

theorem handler_bound {s : State} (h : s.bus = BusState.bound) (k : RangeNo) : s.handler k = deviceOf k := by
  unfold State.handler
  rw [h, show BusState.bound.binding.get k.toFin = .bound from ?_]
  simp [BusState.bound]

/-! ### Port accesses -/

/-- A read of a bound range of an initialised block answers the device's byte. -/
theorem portRead_eq_next {obs : Bool} {addr : Addr} {dev : Offset → State → ReadAnswer} {s : State}
    (hi : s.initialised = true) (hb : s.handler (rangeOf addr) ≠ .unbound) :
    portRead obs addr dev s =
      .next ((dev (offsetOf addr) s).state.finish
        ((dev (offsetOf addr) s).events ++ readWatch obs addr s.dbg) (.byte (dev (offsetOf addr) s).value)) := by
  rw [portRead, if_pos hi, resolve_eq_ok hb]

/-- Everything a read can answer. -/
theorem portRead_cases (obs : Bool) (addr : Addr) (dev : Offset → State → ReadAnswer) (s : State) :
    (s.initialised = false ∧ portRead obs addr dev s = .fault .useBeforeInit) ∨
    (s.initialised = true ∧ s.handler (rangeOf addr) = .unbound ∧
      portRead obs addr dev s = .fault (.unboundRange (rangeOf addr))) ∨
    (s.initialised = true ∧ s.handler (rangeOf addr) ≠ .unbound ∧
      portRead obs addr dev s =
        .next ((dev (offsetOf addr) s).state.finish
          ((dev (offsetOf addr) s).events ++ readWatch obs addr s.dbg) (.byte (dev (offsetOf addr) s).value))) := by
  by_cases hi : s.initialised = true
  · by_cases hb : s.handler (rangeOf addr) = .unbound
    · exact .inr (.inl ⟨hi, hb, by rw [portRead, if_pos hi, resolve_eq_error hb]⟩)
    · exact .inr (.inr ⟨hi, hb, portRead_eq_next hi hb⟩)
  · exact .inl ⟨by simpa using hi, by rw [portRead, if_neg hi]⟩

/-- If a read answers a next state, it is the device's, with the device's events, the watch and the byte. -/
theorem portRead_next {obs : Bool} {addr : Addr} {dev : Offset → State → ReadAnswer} {s t : State}
    (h : portRead obs addr dev s = .next t) :
    s.initialised = true ∧ s.handler (rangeOf addr) ≠ .unbound ∧
      t = (dev (offsetOf addr) s).state.finish
        ((dev (offsetOf addr) s).events ++ readWatch obs addr s.dbg) (.byte (dev (offsetOf addr) s).value) := by
  rcases portRead_cases obs addr dev s with ⟨_, e⟩ | ⟨_, _, e⟩ | ⟨hi, hb, e⟩ <;> rw [h] at e
  · cases e
  · cases e
  · exact ⟨hi, hb, by injection e⟩

/-- A write to a frozen address of an initialised block emits the watch and does nothing else. -/
theorem portWrite_frozen {obs : Bool} {addr : Addr} {dev : Offset → State → WriteAnswer} {s : State}
    (hi : s.initialised = true) (hf : frozen obs addr s.dbg = true) :
    portWrite obs addr dev s = .next (s.finish (writeWatch obs addr s.dbg) .none) := by
  rw [portWrite, if_pos hi, if_pos hf]

/-- A write to a bound range of an initialised block, not frozen, is the device's. -/
theorem portWrite_eq_next {obs : Bool} {addr : Addr} {dev : Offset → State → WriteAnswer} {s : State}
    (hi : s.initialised = true) (hf : frozen obs addr s.dbg = false) (hb : s.handler (rangeOf addr) ≠ .unbound) :
    portWrite obs addr dev s =
      .next ((dev (offsetOf addr) s).state.finish
        (writeWatch obs addr s.dbg ++ (dev (offsetOf addr) s).events) .none) := by
  rw [portWrite, if_pos hi, if_neg (by simp [hf]), resolve_eq_ok hb]

/-- Everything a write can answer. -/
theorem portWrite_cases (obs : Bool) (addr : Addr) (dev : Offset → State → WriteAnswer) (s : State) :
    (s.initialised = false ∧ portWrite obs addr dev s = .fault .useBeforeInit) ∨
    (s.initialised = true ∧ frozen obs addr s.dbg = true ∧
      portWrite obs addr dev s = .next (s.finish (writeWatch obs addr s.dbg) .none)) ∨
    (s.initialised = true ∧ frozen obs addr s.dbg = false ∧ s.handler (rangeOf addr) = .unbound ∧
      portWrite obs addr dev s = .fault (.unboundRange (rangeOf addr))) ∨
    (s.initialised = true ∧ frozen obs addr s.dbg = false ∧ s.handler (rangeOf addr) ≠ .unbound ∧
      portWrite obs addr dev s =
        .next ((dev (offsetOf addr) s).state.finish
          (writeWatch obs addr s.dbg ++ (dev (offsetOf addr) s).events) .none)) := by
  by_cases hi : s.initialised = true
  · by_cases hf : frozen obs addr s.dbg = true
    · exact .inr (.inl ⟨hi, hf, portWrite_frozen hi hf⟩)
    · have hf' : frozen obs addr s.dbg = false := by simpa using hf
      by_cases hb : s.handler (rangeOf addr) = .unbound
      · exact .inr (.inr (.inl ⟨hi, hf', hb, by rw [portWrite, if_pos hi, if_neg hf, resolve_eq_error hb]⟩))
      · exact .inr (.inr (.inr ⟨hi, hf', hb, portWrite_eq_next hi hf' hb⟩))
  · exact .inl ⟨by simpa using hi, by rw [portWrite, if_neg hi]⟩

/-- If a write answers a next state, it was frozen, or the state is the device's. -/
theorem portWrite_next {obs : Bool} {addr : Addr} {dev : Offset → State → WriteAnswer} {s t : State}
    (h : portWrite obs addr dev s = .next t) :
    s.initialised = true ∧
      ((frozen obs addr s.dbg = true ∧ t = s.finish (writeWatch obs addr s.dbg) .none) ∨
        (frozen obs addr s.dbg = false ∧ s.handler (rangeOf addr) ≠ .unbound ∧
          t = (dev (offsetOf addr) s).state.finish
            (writeWatch obs addr s.dbg ++ (dev (offsetOf addr) s).events) .none)) := by
  rcases portWrite_cases obs addr dev s with ⟨_, e⟩ | ⟨hi, hf, e⟩ | ⟨_, _, _, e⟩ | ⟨hi, hf, hb, e⟩ <;> rw [h] at e
  · cases e
  · exact ⟨hi, .inl ⟨hf, by injection e⟩⟩
  · cases e
  · exact ⟨hi, .inr ⟨hf, hb, by injection e⟩⟩

/-- Without a debugger nothing is watched and nothing is frozen (40_dispatcher.md R90). -/
theorem readWatch_detached {obs : Bool} {addr : Addr} {d : DebugConfig} (h : d.attached = false) :
    readWatch obs addr d = [] := by simp [readWatch, h]

theorem writeWatch_detached {obs : Bool} {addr : Addr} {d : DebugConfig} (h : d.attached = false) :
    writeWatch obs addr d = [] := by simp [writeWatch, h]

theorem frozen_detached {obs : Bool} {addr : Addr} {d : DebugConfig} (h : d.attached = false) :
    frozen obs addr d = false := by simp [frozen, h]

/-- PEEK and POKE do not consult the debugger's maps (40_dispatcher.md R82, R83). -/
@[simp] theorem readWatch_introspective (addr : Addr) (d : DebugConfig) : readWatch false addr d = [] := rfl

@[simp] theorem writeWatch_introspective (addr : Addr) (d : DebugConfig) : writeWatch false addr d = [] := rfl

@[simp] theorem frozen_introspective (addr : Addr) (d : DebugConfig) : frozen false addr d = false := rfl

@[simp] theorem raiseReset_introspective (addr : Addr) (d : DebugConfig) : raiseReset false addr d = [] := rfl

/-- Without the opening of the debugger a reset request is one event, or none of an introspective write. -/
theorem raiseReset_blockEvents (obs : Bool) (addr : Addr) (d : DebugConfig) :
    (raiseReset obs addr d).filter (fun e => !e.isDebugOpen) = if obs then [.resetRequest] else [] := by
  cases obs
  · rfl
  · unfold raiseReset
    by_cases h : (d.attached && d.openOnReset) = true
    · simp [h, Event.isDebugOpen]
    · simp [h, Event.isDebugOpen]

/-- A watch only opens the debugger. -/
theorem readWatch_blockEvents (obs : Bool) (addr : Addr) (d : DebugConfig) :
    (readWatch obs addr d).filter (fun e => !e.isDebugOpen) = [] := by
  unfold readWatch
  split <;> rfl

theorem writeWatch_blockEvents (obs : Bool) (addr : Addr) (d : DebugConfig) :
    (writeWatch obs addr d).filter (fun e => !e.isDebugOpen) = [] := by
  unfold writeWatch
  split <;> rfl

/-- Every value the power-mode write and the handshake give is a state of the battery machine (10_state.md R44). -/
theorem powerModeState_mem (v : Byte) : powerModeState v ∈ batteryStates := by
  unfold powerModeState; split <;> decide

theorem handshake_mem (st v : Byte) (level : BatteryLevel) : handshake st v level ∈ batteryStates := by
  unfold handshake; repeat' split
  all_goals decide

/-- A read depends on the device's own read only at the resolved offset. -/
theorem portRead_congr {obs : Bool} {addr : Addr} {dev dev' : Offset → State → ReadAnswer} {s : State}
    (h : dev (offsetOf addr) s = dev' (offsetOf addr) s) : portRead obs addr dev s = portRead obs addr dev' s := by
  unfold portRead resolve
  split_ifs <;> first | rfl | (dsimp only; rw [h])

/-- A write depends on the device's own write only at the resolved offset. -/
theorem portWrite_congr {obs : Bool} {addr : Addr} {dev dev' : Offset → State → WriteAnswer} {s : State}
    (h : dev (offsetOf addr) s = dev' (offsetOf addr) s) : portWrite obs addr dev s = portWrite obs addr dev' s := by
  unfold portWrite resolve
  split_ifs <;> first | rfl | (dsimp only; rw [h])

/-! ### Side-band operations -/

/-- Everything a side-band operation can answer. -/
theorem sideBand_cases (run : State → SideAnswer) (s : State) :
    (s.initialised = false ∧ sideBand run s = .fault .useBeforeInit) ∨
    (s.initialised = true ∧ sideBand run s = .next ((run s).state.finish (run s).events (run s).result)) := by
  by_cases hi : s.initialised = true
  · exact .inr ⟨hi, by rw [sideBand, if_pos hi]⟩
  · exact .inl ⟨by simpa using hi, by rw [sideBand, if_neg hi]⟩

/-- A side-band operation on an initialised block answers what its rule gives. -/
theorem sideBand_eq_next {run : State → SideAnswer} {s : State} (hi : s.initialised = true) :
    sideBand run s = .next ((run s).state.finish (run s).events (run s).result) := by rw [sideBand, if_pos hi]

/-- If a side-band operation answers a next state, it is the one its rule gives. -/
theorem sideBand_next {run : State → SideAnswer} {s t : State} (h : sideBand run s = .next t) :
    s.initialised = true ∧ t = (run s).state.finish (run s).events (run s).result := by
  rcases sideBand_cases run s with ⟨_, e⟩ | ⟨hi, e⟩ <;> rw [h] at e
  · cases e
  · exact ⟨hi, by injection e⟩

/-! ### The step -/

/-- With an operation waiting that decodes, a step is its meaning. -/
theorem step_cons {s : State} {t : Transaction} {rest : List Transaction} {i : Instr} (hs : s.inputs = t :: rest)
    (hd : decode t = .ok i) : step s = exec i { s with inputs := rest } := by
  simp only [step, State.fetch, hs, hd]

/-- With none waiting, a step idles. -/
theorem step_nil {s : State} (hs : s.inputs = []) : step s = .next s.idle := by simp only [step, State.fetch, hs]

/-- With one waiting that the decoder refuses, a step refuses. -/
theorem step_refused {s : State} {t : Transaction} {rest : List Transaction} {e : DecodeError} (hs : s.inputs = t :: rest)
    (hd : decode t = .error e) : step s = .refused (.reserved e) := by
  simp only [step, State.fetch, hs, hd]

/-- Everything a step that answers a next state did. -/
theorem step_next {s u : State} (h : step s = .next u) :
    (s.inputs = [] ∧ u = s.idle) ∨
    ∃ t rest i, s.inputs = t :: rest ∧ decode t = .ok i ∧ exec i { s with inputs := rest } = .next u := by
  cases hs : s.inputs with
  | nil => rw [step_nil hs] at h; exact .inl ⟨rfl, by injection h with h; exact h.symm⟩
  | cons t rest =>
    cases hd : decode t with
    | error e => rw [step_refused hs hd] at h; cases h
    | ok i => exact .inr ⟨t, rest, i, rfl, hd, by rw [← step_cons hs hd]; exact h⟩

/-! ### The marked registers of a USB interrupt entry point -/

/-- A register word's bytes after an entry point: the marked lanes are joined in, every other byte stays. -/
theorem orBytes_read {w : Nat} (u : UsbState) (base : Nat) (bits : BitVec w) (n : Nat) (hw : Memory.wf 512 u.regs = true)
    (hb : base + n ≤ 512) :
    Memory.wf 512 (u.orBytes base bits n).regs = true ∧
    ∀ a, (u.orBytes base bits n).regs.read a =
      if base ≤ a ∧ a < base + n then u.regs.read a ||| byteN bits (a - base) else u.regs.read a := by
  induction n with
  | zero => exact ⟨hw, fun a => by rw [if_neg (by omega)]; rfl⟩
  | succ n ih =>
    obtain ⟨hwf, hread⟩ := ih (by omega)
    refine ⟨Memory.wf_write hwf (by omega) _, fun a => ?_⟩
    rw [UsbState.orBytes, UsbState.setReg_regs, Memory.read_write hwf]
    by_cases ha : a = base + n
    · subst ha
      rw [if_pos rfl, hread, if_neg (by omega), if_pos (by omega), Nat.add_sub_cancel_left]
    · rw [if_neg ha, hread]
      by_cases hr : base ≤ a ∧ a < base + n
      · rw [if_pos hr, if_pos (by omega)]
      · rw [if_neg hr, if_neg (by omega)]

section
variable {w : Nat} (u : UsbState) (base : Nat) (bits : BitVec w) (n : Nat)

@[simp] theorem orBytes_ep0Buffer : (u.orBytes base bits n).ep0Buffer = u.ep0Buffer := by
  induction n with
  | zero => rfl
  | succ n ih => exact ih

@[simp] theorem orBytes_ep0Index : (u.orBytes base bits n).ep0Index = u.ep0Index := by
  induction n with
  | zero => rfl
  | succ n ih => exact ih

@[simp] theorem orBytes_transferState : (u.orBytes base bits n).transferState = u.transferState := by
  induction n with
  | zero => rfl
  | succ n ih => exact ih

@[simp] theorem orBytes_pendingBuffer : (u.orBytes base bits n).pendingBuffer = u.pendingBuffer := by
  induction n with
  | zero => rfl
  | succ n ih => exact ih

@[simp] theorem orBytes_pendingLength : (u.orBytes base bits n).pendingLength = u.pendingLength := by
  induction n with
  | zero => rfl
  | succ n ih => exact ih

end

/-! ### The endpoint-0 view -/

/-- A chunk holds at most `EP0_MPS` bytes, and all of them come from the view (42_usb.md R185). -/
theorem chunkSize_le (u : UsbState) : u.chunkSize ≤ u.pendingLength ∧ u.chunkSize ≤ 64 :=
  ⟨Nat.min_le_left _ _, Nat.min_le_right _ _⟩

@[simp] theorem hostMem_length (moment : Nat) (p : HostPtr) (n : Nat) : (hostMem moment p n).length = n := by
  simp [hostMem]

end Sys2Proof.Machine
end

