-- ==== Sys2Proof/Laws/Access.lean ====
section
/-! SUPPORT. What the access routine can do at each address, said once: the device's value, update and events behind an RD, PEEK,
WR or POKE of any address (40_dispatcher.md R77 to R84), so that a proof about every access has a few cases instead of one for
each row. -/

namespace Sys2Proof.Machine

/-! ### An address is its range, its alias bits and its offset -/

theorem append3_extract (a : Addr) (w v u : Nat) (h : w + v + u = 16) :
    (a.extractLsb' (v + u) w ++ a.extractLsb' u v ++ a.extractLsb' 0 u).setWidth 16 = a := by
  refine BitVec.eq_of_getLsbD_eq (fun i hi => ?_)
  rw [BitVec.getLsbD_setWidth, getLsbD_append3]
  simp only [BitVec.getLsbD_extractLsb', hi, decide_true, Bool.true_and]
  split_ifs with h1 h2
  · simp [h1]
  · simp [show i - u < v by omega, show u + (i - u) = i by omega]
  · simp [show i - u - v < w by omega, show v + u + (i - u - v) = i by omega]

theorem ctrlAddr_split {a : Addr} (h : rangeOf a = 0x0#4) : ctrlAddr (a.extractLsb' 0 7) (a.extractLsb' 7 5) = a := by
  have := append3_extract a 4 5 7 rfl
  rw [ctrlAddr, show Config.ctrlRange = rangeOf a from h.symm, rangeOf]
  simpa using this

theorem usbAddr_split {a : Addr} (h : rangeOf a = 0x3#4) : usbAddr (a.extractLsb' 0 9) (a.extractLsb' 9 3) = a := by
  have := append3_extract a 4 3 9 rfl
  rw [usbAddr, show Config.usbRange = rangeOf a from h.symm, rangeOf]
  simpa using this

theorem decodeAccess_ctrl {obs wr : Bool} {a : Addr} {v : Byte} (h : rangeOf a = 0x0#4) :
    decodeAccess obs wr a v = decodeCtrl obs wr (a.extractLsb' 7 5) (a.extractLsb' 0 7) v := if_pos h

theorem decodeAccess_usb {obs wr : Bool} {a : Addr} {v : Byte} (h : rangeOf a = 0x3#4) :
    decodeAccess obs wr a v = decodeUsb obs wr (a.extractLsb' 9 3) (a.extractLsb' 0 9) v := by
  unfold decodeAccess; rw [if_neg (by rw [h]; decide), if_pos (by exact h)]

theorem decodeAccess_ext {obs wr : Bool} {a : Addr} {v : Byte} (h0 : rangeOf a ≠ 0x0#4) (h3 : rangeOf a ≠ 0x3#4) :
    decodeAccess obs wr a v = decodeExt obs wr (rangeOf a) (a.extractLsb' 0 12) v := by
  unfold decodeAccess; rw [if_neg (by exact h0), if_neg (by exact h3)]

/-- A step with an access waiting is the operation of its address. -/
theorem step_port (s : State) (obs wr : Bool) (a : Addr) (v : Byte) :
    step (s.enqueue (portTransaction obs wr a v)) = exec (decodeAccess obs wr a v) s :=
  step_cons rfl (decode_portTransaction ..)

/-! ### The forms of an access -/

/-- A read at `a` that returns `val` of the two devices and changes nothing. -/
def ReadsValue (obs : Bool) (a : Addr) (i : Instr) (val : CtrlState → UsbState → Byte) : Prop :=
  ∀ s, exec i s = portRead obs a (fun _ s => ⟨val s.ctrl s.usb, s, []⟩) s

/-- A read of the endpoint-0 data port at `a`. -/
def ReadsCursor (obs : Bool) (a : Addr) (i : Instr) : Prop :=
  ∀ s, exec i s = portRead obs a (fun _ s => ⟨s.usb.cxByte, if obs then s.setUsb s.usb.cxAdvance else s, []⟩) s

/-- A write at `a` that updates the ControlDevice by `f` and emits `ev`. -/
def WritesCtrl (obs : Bool) (a : Addr) (i : Instr) (f : CtrlState → CtrlState) (ev : DebugConfig → List Event) : Prop :=
  ∀ s, exec i s = portWrite obs a (fun _ s => ⟨s.setCtrl (f s.ctrl), ev s.dbg⟩) s

/-- A write at `a` that updates the USBDeviceController by `f` and emits nothing of its own. -/
def WritesUsb (obs : Bool) (a : Addr) (i : Instr) (f : UsbState → UsbState) : Prop :=
  ∀ s, exec i s = portWrite obs a (fun _ s => ⟨s.setUsb (f s.usb), []⟩) s

/-- What a control write may emit: nothing, one clock rate, or a reset request. -/
def CtrlEvents (obs : Bool) (a : Addr) (d : DebugConfig) (l : List Event) : Prop :=
  l = [] ∨ (∃ r, l = [.setClock r]) ∨ l = raiseReset obs a d

/-! ### The ControlDevice -/

/-- The value a read of a named control register returns (41_control.md R99 to R130). -/
def ctrlValue (c : CtrlState) (u : UsbState) : CtrlReg → Byte
  | .speed => c.cpuSpeedCode.setWidth 8
  | .battStatus => c.batteryReadState
  | .devtype => Config.deviceType
  | .charge => c.port .charge ||| (if c.batteryCharging then 0x02#8 else 0x00#8)
  | .usbMirror => c.port .usbMirror ||| u.status
  | .priv0 => byteN c.privilegedBoundary 0
  | .priv1 => byteN c.privilegedBoundary 1
  | .priv2 => byteN c.privilegedBoundary 2
  | .pstart0 => byteN c.protectedStart 0
  | .pstart1 => byteN c.protectedStart 1
  | .pstart2 => byteN c.protectedStart 2
  | .pend0 => byteN c.protectedEnd 0
  | .pend1 => byteN c.protectedEnd 1
  | .pend2 => byteN c.protectedEnd 2
  | .stack0 => byteN c.stackLimit 0
  | .stack1 => byteN c.stackLimit 1
  | .stack2 => byteN c.stackLimit 2
  | .misc => c.port .misc ||| Config.miscFixedBit
  | .pstatus => c.protectionStatus
  | r => c.port r

/-- What a write of `v` to a named control register makes of the record (41_control.md R98 to R129). -/
def ctrlUpdated (v : Byte) : CtrlReg → CtrlState → CtrlState
  | .speed, c => c.setSpeed (speedCodeOf v)
  | .powerMode, c => (c.storePort .powerMode v).setBattery (powerModeState v)
  | .battHs, c => (c.storePort .battHs v).setBattery (handshake c.batteryReadState v c.batterySetLevel)
  | .shutdown, c =>
    if v = Config.shutdownCode then (c.setOff true).storePort .shutdown (v ||| Config.shutdownStatusBit)
    else c.storePort .shutdown v
  | .priv0, c => c.setPriv (insertN c.privilegedBoundary 0 v)
  | .priv1, c => c.setPriv (insertN c.privilegedBoundary 1 v)
  | .priv2, c => c.setPriv (insertN c.privilegedBoundary 2 v)
  | .pstart0, c => c.setPstart (insertN c.protectedStart 0 v)
  | .pstart1, c => c.setPstart (insertN c.protectedStart 1 v)
  | .pstart2, c => c.setPstart (insertN c.protectedStart 2 v)
  | .pend0, c => c.setPend (insertN c.protectedEnd 0 v)
  | .pend1, c => c.setPend (insertN c.protectedEnd 1 v)
  | .pend2, c => c.setPend (insertN c.protectedEnd 2 v)
  | .stack0, c => c.setStack (insertN c.stackLimit 0 v)
  | .stack1, c => c.setStack (insertN c.stackLimit 1 v)
  | .stack2, c => c.setStack (insertN c.stackLimit 2 v)
  | .pack, c => c.setStatus (c.protectionStatus &&& ~~~v)
  | r, c => c.storePort r v

/-- What a write of `v` to a named control register emits of its own (41_control.md R98, R100, R113). -/
def ctrlEmitted (obs : Bool) (al : BitVec 5) (v : Byte) : CtrlReg → DebugConfig → List Event
  | .reset, d => if v &&& Config.resetTriggerMask ≠ 0x00#8 then raiseReset obs (ctrlRegAddr .reset al) d else []
  | .shutdown, d => if v = Config.shutdownCode then raiseReset obs (ctrlRegAddr .shutdown al) d else []
  | .speed, _ => [.setClock (Config.clockRate (v.extractLsb' 0 2))]
  | _, _ => []

theorem readsValue_named (obs : Bool) (al : BitVec 5) (r : CtrlReg) :
    ReadsValue obs (ctrlRegAddr r al) (ctrlReadInstr obs al r) (fun c u => ctrlValue c u r) := by
  cases r <;> exact fun s => rfl

theorem writesCtrl_named (obs : Bool) (al : BitVec 5) (v : Byte) (r : CtrlReg) :
    WritesCtrl obs (ctrlRegAddr r al) (ctrlWriteInstr obs al v r) (ctrlUpdated v r) (ctrlEmitted obs al v r) := by
  cases r <;> exact fun s => rfl

theorem ctrlEmitted_events (obs : Bool) (al : BitVec 5) (v : Byte) (r : CtrlReg) (d : DebugConfig) :
    CtrlEvents obs (ctrlRegAddr r al) d (ctrlEmitted obs al v r d) := by
  cases r
  case speed => exact .inr (.inl ⟨_, rfl⟩)
  case reset => dsimp only [ctrlEmitted]; split <;> first | exact .inl rfl | exact .inr (.inr rfl)
  case shutdown => dsimp only [ctrlEmitted]; split <;> first | exact .inl rfl | exact .inr (.inr rfl)
  all_goals exact .inl rfl

/-- What a control write emits, but for the opening of the debugger, depends on no alias and no debugger. -/
theorem ctrlEmitted_blockEvents (obs : Bool) (v : Byte) (r : CtrlReg) : ∃ own : List Event, ∀ (al : BitVec 5) (d : DebugConfig),
    (ctrlEmitted obs al v r d).filter (fun e => !e.isDebugOpen) = own := by
  cases r
  case reset =>
    by_cases h : v &&& Config.resetTriggerMask ≠ 0x00#8
    · exact ⟨if obs then [.resetRequest] else [], fun al d => by simp only [ctrlEmitted, if_pos h, raiseReset_blockEvents]⟩
    · exact ⟨[], fun al d => by simp only [ctrlEmitted, if_neg h, List.filter_nil]⟩
  case shutdown =>
    by_cases h : v = Config.shutdownCode
    · exact ⟨if obs then [.resetRequest] else [], fun al d => by simp only [ctrlEmitted, if_pos h, raiseReset_blockEvents]⟩
    · exact ⟨[], fun al d => by simp only [ctrlEmitted, if_neg h, List.filter_nil]⟩
  case speed => exact ⟨[.setClock (Config.clockRate (v.extractLsb' 0 2))], fun al d => rfl⟩
  all_goals exact ⟨[], fun al d => rfl⟩

theorem readsValue_ctrlRaw (obs : Bool) (al : BitVec 5) (off : BitVec 7) :
    ReadsValue obs (ctrlAddr off al) (.ctrlRawR obs al off) (fun c _ => c.ports.read off.toNat) := by
  intro s
  show execCtrlRawR obs al off s = _
  rw [execCtrlRawR]
  refine portRead_congr ?_
  simp only [offsetOf_ctrlAddr, BitVec.toNat_setWidth, Nat.mod_eq_of_lt (show off.toNat < 2 ^ 12 by omega)]

theorem writesCtrl_raw (obs : Bool) (al : BitVec 5) (off : BitVec 7) (v : Byte) :
    WritesCtrl obs (ctrlAddr off al) (.ctrlRawW obs al off v) (fun c => c.setPort off.toNat v) (fun _ => []) := by
  intro s
  show execCtrlRawW obs al off v s = _
  rw [execCtrlRawW]
  refine portWrite_congr ?_
  simp only [offsetOf_ctrlAddr, BitVec.toNat_setWidth, Nat.mod_eq_of_lt (show off.toNat < 2 ^ 12 by omega)]

/-- Every read of the control range returns a value of the record, the same for every alias. -/
theorem ctrl_read_form (off : BitVec 7) : ∃ val, ∀ (obs : Bool) (al : BitVec 5) (v : Byte),
    ReadsValue obs (ctrlAddr off al) (decodeCtrl obs false al off v) val := by
  unfold decodeCtrl
  cases hr : ctrlRegAt off with
  | none => exact ⟨_, fun obs al v => readsValue_ctrlRaw obs al off⟩
  | some r =>
    obtain rfl := ctrlRegAt_eq_some hr
    exact ⟨_, fun obs al v => readsValue_named obs al r⟩

/-- Every write of the control range updates the record, in the same way for every alias and for WR and POKE; what it emits
is, but for the opening of the debugger, the same for every alias. -/
theorem ctrl_write_form (off : BitVec 7) (v : Byte) :
    ∃ (f : CtrlState → CtrlState) (own : Bool → List Event), ∀ (obs : Bool) (al : BitVec 5), ∃ ev,
    WritesCtrl obs (ctrlAddr off al) (decodeCtrl obs true al off v) f ev ∧
      ∀ d, CtrlEvents obs (ctrlAddr off al) d (ev d) ∧ (ev d).filter (fun e => !e.isDebugOpen) = own obs := by
  unfold decodeCtrl
  cases hr : ctrlRegAt off with
  | none => exact ⟨_, fun _ => [], fun obs al => ⟨_, writesCtrl_raw obs al off v, fun d => ⟨.inl rfl, rfl⟩⟩⟩
  | some r =>
    obtain rfl := ctrlRegAt_eq_some hr
    choose own ho using fun obs => ctrlEmitted_blockEvents obs v r
    exact ⟨_, own, fun obs al => ⟨_, writesCtrl_named obs al v r, fun d => ⟨ctrlEmitted_events obs al v r d, ho obs al d⟩⟩⟩

/-! ### The USBDeviceController -/

theorem offsetOf_usbAddr_toNat (off : BitVec 9) (al : BitVec 3) : (offsetOf (usbAddr off al)).toNat = off.toNat := by
  rw [offsetOf_usbAddr, BitVec.toNat_setWidth, Nat.mod_eq_of_lt (show off.toNat < 2 ^ 12 by omega)]

theorem usbReadStored_form (obs : Bool) (r : UsbReg) (lane : BitVec 2) (al : BitVec 3) (s : State) :
    usbReadStored obs r lane al s =
      portRead obs (usbRegAddr r lane al) (fun _ s => ⟨s.usb.regs.read (usbLane r lane).toNat, s, []⟩) s := by
  refine portRead_congr ?_
  simp only [usbRegAddr, offsetOf_usbAddr_toNat]

theorem usbWriteWith_form (f : Byte → Byte → Byte) (obs : Bool) (r : UsbReg) (lane : BitVec 2) (al : BitVec 3) (v : Byte)
    (s : State) :
    usbWriteWith f obs r lane al v s =
      portWrite obs (usbRegAddr r lane al) (fun _ s =>
        ⟨s.setUsb (s.usb.setReg (usbLane r lane).toNat (f (s.usb.regs.read (usbLane r lane).toNat) v)), []⟩) s := by
  refine portWrite_congr ?_
  simp only [usbRegAddr, offsetOf_usbAddr_toNat]

/-- What a write of `v` to a byte lane of a named USB register makes of the record (42_usb.md R143 to R173). -/
def usbUpdated (v : Byte) (lane : BitVec 2) : UsbReg → UsbState → UsbState
  | .usbsts, u => u.setReg (usbLane .usbsts lane).toNat (u.regs.read (usbLane .usbsts lane).toNat &&& ~~~v)
  | .otgisr, u => u.setReg (usbLane .otgisr lane).toNat (u.regs.read (usbLane .otgisr lane).toNat &&& ~~~v)
  | .disg0, u => u.setReg (usbLane .disg0 lane).toNat (u.regs.read (usbLane .disg0 lane).toNat &&& v)
  | .disg1, u => u.setReg (usbLane .disg1 lane).toNat (u.regs.read (usbLane .disg1 lane).toNat &&& v)
  | .disg2, u => u.setReg (usbLane .disg2 lane).toNat (u.regs.read (usbLane .disg2 lane).toNat &&& v)
  | .dcfesr, u =>
    if lane = 0#2 then
      (if v.getLsbD 0 then (u.setReg (usbLane .dcfesr lane).toNat (v &&& 0xFE#8)).cxDone
       else u.setReg (usbLane .dcfesr lane).toNat (v &&& 0xFE#8))
    else u.setReg (usbLane .dcfesr lane).toNat v
  | .gisr, u => u
  | .digr, u => u
  | .cxport, u => u
  | r, u => u.setReg (usbLane r lane).toNat v

theorem writesUsb_named (obs : Bool) (al : BitVec 3) (lane : BitVec 2) (v : Byte) (r : UsbReg) :
    WritesUsb obs (usbRegAddr r lane al) (usbWriteInstr obs al lane v r) (usbUpdated v lane r) := by
  intro s
  cases r
  case usbsts => exact usbWriteWith_form (fun old v => old &&& ~~~v) obs .usbsts lane al v s
  case otgisr => exact usbWriteWith_form (fun old v => old &&& ~~~v) obs .otgisr lane al v s
  case disg0 => exact usbWriteWith_form (fun old v => old &&& v) obs .disg0 lane al v s
  case disg1 => exact usbWriteWith_form (fun old v => old &&& v) obs .disg1 lane al v s
  case disg2 => exact usbWriteWith_form (fun old v => old &&& v) obs .disg2 lane al v s
  case dcfesr =>
    show execUsbDcfesrW obs al lane v s = _
    rw [execUsbDcfesrW]
    refine portWrite_congr ?_
    simp only [usbRegAddr, offsetOf_usbAddr_toNat, usbUpdated]
    by_cases hl : lane = 0#2 <;> simp [hl]
  case gisr => rfl
  case digr => rfl
  case cxport => rfl
  all_goals exact usbWriteWith_form (fun _ v => v) obs _ lane al v s

theorem readsValue_usbRaw (obs : Bool) (al : BitVec 3) (off : BitVec 9) :
    ReadsValue obs (usbAddr off al) (.usbRawR obs al off) (fun _ u => u.regs.read off.toNat) := by
  intro s
  show execUsbRawR obs al off s = _
  rw [execUsbRawR]
  refine portRead_congr ?_
  simp only [offsetOf_usbAddr_toNat]
  rfl

theorem writesUsb_raw (obs : Bool) (al : BitVec 3) (off : BitVec 9) (v : Byte) :
    WritesUsb obs (usbAddr off al) (.usbRawW obs al off v) (fun u => u.setReg off.toNat v) := by
  intro s
  show execUsbRawW obs al off v s = _
  rw [execUsbRawW]
  refine portWrite_congr ?_
  simp only [offsetOf_usbAddr_toNat]

/-- Every read of the USB range returns a value of the record, or is one of the data port. -/
theorem usb_read_form (off : BitVec 9) :
    (∃ val, ∀ (obs : Bool) (al : BitVec 3) (v : Byte), ReadsValue obs (usbAddr off al) (decodeUsb obs false al off v) val) ∨
    (off.extractLsb' 2 7 = 0b1110100#7 ∧
      ∀ (obs : Bool) (al : BitVec 3) (v : Byte), ReadsCursor obs (usbAddr off al) (decodeUsb obs false al off v)) := by
  unfold decodeUsb
  cases hr : usbRegAt off with
  | none => exact .inl ⟨_, fun obs al v => readsValue_usbRaw obs al off⟩
  | some r =>
    have hoff := usbRegAt_eq_some hr
    generalize off.extractLsb' 0 2 = lane at hoff
    subst hoff
    dsimp only
    cases r
    case cxport => exact .inr ⟨by clear hr; revert lane; decide, fun obs al v s => rfl⟩
    case gisr => exact .inl ⟨fun _ u => byteN (u.gisr.setWidth 32) lane.toNat, fun obs al v s => rfl⟩
    case digr => exact .inl ⟨fun _ u => byteN (u.digr.setWidth 32) lane.toNat, fun obs al v s => rfl⟩
    all_goals exact .inl ⟨fun _ u => u.regs.read _, fun obs al v s => usbReadStored_form obs _ lane al s⟩

/-- Every write of the USB range updates the record, in the same way for every alias and for WR and POKE. -/
theorem usb_write_form (off : BitVec 9) (v : Byte) : ∃ f, ∀ (obs : Bool) (al : BitVec 3),
    WritesUsb obs (usbAddr off al) (decodeUsb obs true al off v) f := by
  unfold decodeUsb
  cases hr : usbRegAt off with
  | none => exact ⟨_, fun obs al => writesUsb_raw obs al off v⟩
  | some r =>
    have hoff := usbRegAt_eq_some hr
    generalize off.extractLsb' 0 2 = lane at hoff
    subst hoff
    dsimp only
    exact ⟨_, fun obs al => writesUsb_named obs al lane v r⟩

/-! ### Every address -/

/-- What an RD or PEEK of any address is. -/
theorem read_form (a : Addr) :
    (rangeOf a = 0x0#4 ∧ ∃ val, ∀ obs v, ReadsValue obs a (decodeAccess obs false a v) val) ∨
    (rangeOf a = 0x3#4 ∧
      ((∃ val, ∀ obs v, ReadsValue obs a (decodeAccess obs false a v) val) ∨
        (a.extractLsb' 2 7 = 0b1110100#7 ∧ ∀ obs v, ReadsCursor obs a (decodeAccess obs false a v)))) ∨
    (rangeOf a ≠ 0x0#4 ∧ rangeOf a ≠ 0x3#4 ∧ ∀ obs v s, exec (decodeAccess obs false a v) s =
      portRead obs a (fun off s => ⟨Config.freeByte s.draws, s.drawn, [.extRead (rangeOf a) off obs]⟩) s) := by
  by_cases h0 : rangeOf a = 0x0#4
  · obtain ⟨val, h⟩ := ctrl_read_form (a.extractLsb' 0 7)
    refine .inl ⟨h0, val, fun obs v => ?_⟩
    have := h obs (a.extractLsb' 7 5) v
    rwa [ctrlAddr_split h0, ← decodeAccess_ctrl h0] at this
  by_cases h3 : rangeOf a = 0x3#4
  · refine .inr (.inl ⟨h3, ?_⟩)
    rcases usb_read_form (a.extractLsb' 0 9) with ⟨val, h⟩ | ⟨hx, h⟩
    · refine .inl ⟨val, fun obs v => ?_⟩
      have := h obs (a.extractLsb' 9 3) v
      rwa [usbAddr_split h3, ← decodeAccess_usb h3] at this
    · have e : (a.extractLsb' 0 9).extractLsb' 2 7 = a.extractLsb' 2 7 := by ext i hi; simp
      refine .inr ⟨e ▸ hx, fun obs v => ?_⟩
      have := h obs (a.extractLsb' 9 3) v
      rwa [usbAddr_split h3, ← decodeAccess_usb h3] at this
  · refine .inr (.inr ⟨h0, h3, fun obs v s => ?_⟩)
    rw [decodeAccess_ext h0 h3]
    show execExtR _ _ _ _ = _
    rw [execExtR, addr_split]

/-- What a WR or POKE of any address is. -/
theorem write_form (a : Addr) (v : Byte) :
    (rangeOf a = 0x0#4 ∧ ∃ f, ∀ obs, ∃ ev,
      WritesCtrl obs a (decodeAccess obs true a v) f ev ∧ ∀ d, CtrlEvents obs a d (ev d)) ∨
    (rangeOf a = 0x3#4 ∧ ∃ f, ∀ obs, WritesUsb obs a (decodeAccess obs true a v) f) ∨
    (rangeOf a ≠ 0x0#4 ∧ rangeOf a ≠ 0x3#4 ∧ ∀ obs s, exec (decodeAccess obs true a v) s =
      portWrite obs a (fun off s => ⟨s, [.extWrite (rangeOf a) off v obs]⟩) s) := by
  by_cases h0 : rangeOf a = 0x0#4
  · obtain ⟨f, own, h⟩ := ctrl_write_form (a.extractLsb' 0 7) v
    refine .inl ⟨h0, f, fun obs => ?_⟩
    obtain ⟨ev, hw, he⟩ := h obs (a.extractLsb' 7 5)
    rw [ctrlAddr_split h0] at hw he
    rw [← decodeAccess_ctrl h0] at hw
    exact ⟨ev, hw, fun d => (he d).1⟩
  by_cases h3 : rangeOf a = 0x3#4
  · obtain ⟨f, h⟩ := usb_write_form (a.extractLsb' 0 9) v
    refine .inr (.inl ⟨h3, f, fun obs => ?_⟩)
    have := h obs (a.extractLsb' 9 3)
    rwa [usbAddr_split h3, ← decodeAccess_usb h3] at this
  · refine .inr (.inr ⟨h0, h3, fun obs s => ?_⟩)
    rw [decodeAccess_ext h0 h3]
    show execExtW _ _ _ _ _ = _
    rw [execExtW, addr_split]

end Sys2Proof.Machine
end

