-- ==== Sys2Proof/Laws/PerInstr.lean ====
section
/-! SUPPORT. The family TableRow, one lemma for each operation: the word of a well-formed operation satisfies the mask and the
pattern of the opcode-table row that bears its mnemonic (30_encoding.md R67). -/

namespace Sys2Proof.Machine

/-- A named control register's word on the fields the table fixes. -/
theorem ctrlWord_masked (obs wr : Bool) (off : BitVec 7) (al : BitVec 5) (v : Byte) :
    portWord obs wr (ctrlAddr off al) v &&& 0xFDF07F00#32 = portWord true wr (ctrlAddr off 0#5) 0x00#8 := by
  refine BitVec.eq_of_getLsbD_eq (fun i hi => ?_)
  rw [BitVec.getLsbD_and, getLsbD_portWord, getLsbD_portWord, getLsbD_ctrlAddr, getLsbD_ctrlAddr]
  interval_cases i <;> simp

/-- A control word without the offset. -/
theorem ctrlRawWord_masked (obs wr : Bool) (off : BitVec 7) (al : BitVec 5) (v : Byte) :
    portWord obs wr (ctrlAddr off al) v &&& 0xFDF00000#32 = portWord true wr (ctrlAddr 0#7 0#5) 0x00#8 := by
  refine BitVec.eq_of_getLsbD_eq (fun i hi => ?_)
  rw [BitVec.getLsbD_and, getLsbD_portWord, getLsbD_portWord, getLsbD_ctrlAddr, getLsbD_ctrlAddr]
  interval_cases i <;> simp

/-- A named USB register's word on the fields the table fixes. -/
theorem usbWord_masked (obs wr : Bool) (off : BitVec 9) (al : BitVec 3) (v : Byte) :
    portWord obs wr (usbAddr off al) v &&& 0xFDF1FC00#32 =
      portWord true wr (usbAddr (off &&& 0x1FC#9) 0#3) 0x00#8 := by
  refine BitVec.eq_of_getLsbD_eq (fun i hi => ?_)
  rw [BitVec.getLsbD_and, getLsbD_portWord, getLsbD_portWord, getLsbD_usbAddr, getLsbD_usbAddr]
  interval_cases i <;> simp

/-- A USB word without the offset. -/
theorem usbRawWord_masked (obs wr : Bool) (off : BitVec 9) (al : BitVec 3) (v : Byte) :
    portWord obs wr (usbAddr off al) v &&& 0xFDF00000#32 = portWord true wr (usbAddr 0#9 0#3) 0x00#8 := by
  refine BitVec.eq_of_getLsbD_eq (fun i hi => ?_)
  rw [BitVec.getLsbD_and, getLsbD_portWord, getLsbD_portWord, getLsbD_usbAddr, getLsbD_usbAddr]
  interval_cases i <;> simp

/-- Any PORT word without its address. -/
theorem extWord_masked (obs wr : Bool) (addr : Addr) (v : Byte) :
    portWord obs wr addr v &&& 0xFD000000#32 = portWord true wr 0x0000#16 0x00#8 := by
  refine BitVec.eq_of_getLsbD_eq (fun i hi => ?_)
  rw [BitVec.getLsbD_and, getLsbD_portWord, getLsbD_portWord]
  interval_cases i <;> simp

/-- A side-band word is its row's pattern. -/
theorem sbWord_masked (p : SbOp) (l : List Operand) :
    (sbTransaction p l).word &&& 0xFFFFFFFF#32 = (sbTransaction p []).word := BitVec.and_allOnes

@[simp] theorem usbLane_base (r : UsbReg) (lane : BitVec 2) : usbLane r lane &&& 0x1FC#9 = usbBase r := by
  revert lane; cases r <;> decide

end Sys2Proof.Machine

namespace Sys2Proof.Laws.TableRow

open Machine

/-- The word of a well-formed operation satisfies its row of the opcode table. -/
def Statement (i : Instr) : Prop :=
  i.wf = true → ∃ row ∈ opcodeTable, row.mnemonic = i.mnemonic ∧ (encode i).word &&& row.mask = row.pattern

/-- A row of the table with the operation's mnemonic, and the masked word. -/
theorem intro {i : Instr} (row : OpcodeRow) (hrow : row ∈ opcodeTable) (hm : row.mnemonic = i.mnemonic)
    (hw : (encode i).word &&& row.mask = row.pattern) : Statement i := fun _ => ⟨row, hrow, hm, hw⟩

theorem ctrlResetR (obs : Bool) (al : BitVec 5) : Statement (.ctrlResetR obs al) :=
  intro ⟨"CTRL.RESET.R", 0xFDF07F00#32, 0x00000000#32⟩ (by decide) rfl ((ctrlWord_masked obs false (ctrlOffset .reset) al 0x00#8).trans rfl)

theorem ctrlResetW (obs : Bool) (al : BitVec 5) (v : Byte) : Statement (.ctrlResetW obs al v) :=
  intro ⟨"CTRL.RESET.W", 0xFDF07F00#32, 0x01000000#32⟩ (by decide) rfl ((ctrlWord_masked obs true (ctrlOffset .reset) al v).trans rfl)

theorem ctrlSpeedR (obs : Bool) (al : BitVec 5) : Statement (.ctrlSpeedR obs al) :=
  intro ⟨"CTRL.SPEED.R", 0xFDF07F00#32, 0x00000100#32⟩ (by decide) rfl ((ctrlWord_masked obs false (ctrlOffset .speed) al 0x00#8).trans rfl)

theorem ctrlSpeedW (obs : Bool) (al : BitVec 5) (v : Byte) : Statement (.ctrlSpeedW obs al v) :=
  intro ⟨"CTRL.SPEED.W", 0xFDF07F00#32, 0x01000100#32⟩ (by decide) rfl ((ctrlWord_masked obs true (ctrlOffset .speed) al v).trans rfl)

theorem ctrlBattStatusR (obs : Bool) (al : BitVec 5) : Statement (.ctrlBattStatusR obs al) :=
  intro ⟨"CTRL.BATT_STATUS.R", 0xFDF07F00#32, 0x00000200#32⟩ (by decide) rfl ((ctrlWord_masked obs false (ctrlOffset .battStatus) al 0x00#8).trans rfl)

theorem ctrlBattStatusW (obs : Bool) (al : BitVec 5) (v : Byte) : Statement (.ctrlBattStatusW obs al v) :=
  intro ⟨"CTRL.BATT_STATUS.W", 0xFDF07F00#32, 0x01000200#32⟩ (by decide) rfl ((ctrlWord_masked obs true (ctrlOffset .battStatus) al v).trans rfl)

theorem ctrlDevtypeR (obs : Bool) (al : BitVec 5) : Statement (.ctrlDevtypeR obs al) :=
  intro ⟨"CTRL.DEVTYPE.R", 0xFDF07F00#32, 0x00000300#32⟩ (by decide) rfl ((ctrlWord_masked obs false (ctrlOffset .devtype) al 0x00#8).trans rfl)

theorem ctrlDevtypeW (obs : Bool) (al : BitVec 5) (v : Byte) : Statement (.ctrlDevtypeW obs al v) :=
  intro ⟨"CTRL.DEVTYPE.W", 0xFDF07F00#32, 0x01000300#32⟩ (by decide) rfl ((ctrlWord_masked obs true (ctrlOffset .devtype) al v).trans rfl)

theorem ctrlPowerModeR (obs : Bool) (al : BitVec 5) : Statement (.ctrlPowerModeR obs al) :=
  intro ⟨"CTRL.POWER_MODE.R", 0xFDF07F00#32, 0x00000700#32⟩ (by decide) rfl ((ctrlWord_masked obs false (ctrlOffset .powerMode) al 0x00#8).trans rfl)

theorem ctrlPowerModeW (obs : Bool) (al : BitVec 5) (v : Byte) : Statement (.ctrlPowerModeW obs al v) :=
  intro ⟨"CTRL.POWER_MODE.W", 0xFDF07F00#32, 0x01000700#32⟩ (by decide) rfl ((ctrlWord_masked obs true (ctrlOffset .powerMode) al v).trans rfl)

theorem ctrlBattHsR (obs : Bool) (al : BitVec 5) : Statement (.ctrlBattHsR obs al) :=
  intro ⟨"CTRL.BATT_HS.R", 0xFDF07F00#32, 0x00000900#32⟩ (by decide) rfl ((ctrlWord_masked obs false (ctrlOffset .battHs) al 0x00#8).trans rfl)

theorem ctrlBattHsW (obs : Bool) (al : BitVec 5) (v : Byte) : Statement (.ctrlBattHsW obs al v) :=
  intro ⟨"CTRL.BATT_HS.W", 0xFDF07F00#32, 0x01000900#32⟩ (by decide) rfl ((ctrlWord_masked obs true (ctrlOffset .battHs) al v).trans rfl)

theorem ctrlChargeR (obs : Bool) (al : BitVec 5) : Statement (.ctrlChargeR obs al) :=
  intro ⟨"CTRL.CHARGE.R", 0xFDF07F00#32, 0x00000A00#32⟩ (by decide) rfl ((ctrlWord_masked obs false (ctrlOffset .charge) al 0x00#8).trans rfl)

theorem ctrlChargeW (obs : Bool) (al : BitVec 5) (v : Byte) : Statement (.ctrlChargeW obs al v) :=
  intro ⟨"CTRL.CHARGE.W", 0xFDF07F00#32, 0x01000A00#32⟩ (by decide) rfl ((ctrlWord_masked obs true (ctrlOffset .charge) al v).trans rfl)

theorem ctrlShutdownR (obs : Bool) (al : BitVec 5) : Statement (.ctrlShutdownR obs al) :=
  intro ⟨"CTRL.SHUTDOWN.R", 0xFDF07F00#32, 0x00000C00#32⟩ (by decide) rfl ((ctrlWord_masked obs false (ctrlOffset .shutdown) al 0x00#8).trans rfl)

theorem ctrlShutdownW (obs : Bool) (al : BitVec 5) (v : Byte) : Statement (.ctrlShutdownW obs al v) :=
  intro ⟨"CTRL.SHUTDOWN.W", 0xFDF07F00#32, 0x01000C00#32⟩ (by decide) rfl ((ctrlWord_masked obs true (ctrlOffset .shutdown) al v).trans rfl)

theorem ctrlUsbMirrorR (obs : Bool) (al : BitVec 5) : Statement (.ctrlUsbMirrorR obs al) :=
  intro ⟨"CTRL.USB_MIRROR.R", 0xFDF07F00#32, 0x00000F00#32⟩ (by decide) rfl ((ctrlWord_masked obs false (ctrlOffset .usbMirror) al 0x00#8).trans rfl)

theorem ctrlUsbMirrorW (obs : Bool) (al : BitVec 5) (v : Byte) : Statement (.ctrlUsbMirrorW obs al v) :=
  intro ⟨"CTRL.USB_MIRROR.W", 0xFDF07F00#32, 0x01000F00#32⟩ (by decide) rfl ((ctrlWord_masked obs true (ctrlOffset .usbMirror) al v).trans rfl)

theorem ctrlPriv0R (obs : Bool) (al : BitVec 5) : Statement (.ctrlPriv0R obs al) :=
  intro ⟨"CTRL.PRIV0.R", 0xFDF07F00#32, 0x00001D00#32⟩ (by decide) rfl ((ctrlWord_masked obs false (ctrlOffset .priv0) al 0x00#8).trans rfl)

theorem ctrlPriv0W (obs : Bool) (al : BitVec 5) (v : Byte) : Statement (.ctrlPriv0W obs al v) :=
  intro ⟨"CTRL.PRIV0.W", 0xFDF07F00#32, 0x01001D00#32⟩ (by decide) rfl ((ctrlWord_masked obs true (ctrlOffset .priv0) al v).trans rfl)

theorem ctrlPriv1R (obs : Bool) (al : BitVec 5) : Statement (.ctrlPriv1R obs al) :=
  intro ⟨"CTRL.PRIV1.R", 0xFDF07F00#32, 0x00001E00#32⟩ (by decide) rfl ((ctrlWord_masked obs false (ctrlOffset .priv1) al 0x00#8).trans rfl)

theorem ctrlPriv1W (obs : Bool) (al : BitVec 5) (v : Byte) : Statement (.ctrlPriv1W obs al v) :=
  intro ⟨"CTRL.PRIV1.W", 0xFDF07F00#32, 0x01001E00#32⟩ (by decide) rfl ((ctrlWord_masked obs true (ctrlOffset .priv1) al v).trans rfl)

theorem ctrlPriv2R (obs : Bool) (al : BitVec 5) : Statement (.ctrlPriv2R obs al) :=
  intro ⟨"CTRL.PRIV2.R", 0xFDF07F00#32, 0x00001F00#32⟩ (by decide) rfl ((ctrlWord_masked obs false (ctrlOffset .priv2) al 0x00#8).trans rfl)

theorem ctrlPriv2W (obs : Bool) (al : BitVec 5) (v : Byte) : Statement (.ctrlPriv2W obs al v) :=
  intro ⟨"CTRL.PRIV2.W", 0xFDF07F00#32, 0x01001F00#32⟩ (by decide) rfl ((ctrlWord_masked obs true (ctrlOffset .priv2) al v).trans rfl)

theorem ctrlPstart0R (obs : Bool) (al : BitVec 5) : Statement (.ctrlPstart0R obs al) :=
  intro ⟨"CTRL.PSTART0.R", 0xFDF07F00#32, 0x00002000#32⟩ (by decide) rfl ((ctrlWord_masked obs false (ctrlOffset .pstart0) al 0x00#8).trans rfl)

theorem ctrlPstart0W (obs : Bool) (al : BitVec 5) (v : Byte) : Statement (.ctrlPstart0W obs al v) :=
  intro ⟨"CTRL.PSTART0.W", 0xFDF07F00#32, 0x01002000#32⟩ (by decide) rfl ((ctrlWord_masked obs true (ctrlOffset .pstart0) al v).trans rfl)

theorem ctrlPstart1R (obs : Bool) (al : BitVec 5) : Statement (.ctrlPstart1R obs al) :=
  intro ⟨"CTRL.PSTART1.R", 0xFDF07F00#32, 0x00002100#32⟩ (by decide) rfl ((ctrlWord_masked obs false (ctrlOffset .pstart1) al 0x00#8).trans rfl)

theorem ctrlPstart1W (obs : Bool) (al : BitVec 5) (v : Byte) : Statement (.ctrlPstart1W obs al v) :=
  intro ⟨"CTRL.PSTART1.W", 0xFDF07F00#32, 0x01002100#32⟩ (by decide) rfl ((ctrlWord_masked obs true (ctrlOffset .pstart1) al v).trans rfl)

theorem ctrlPstart2R (obs : Bool) (al : BitVec 5) : Statement (.ctrlPstart2R obs al) :=
  intro ⟨"CTRL.PSTART2.R", 0xFDF07F00#32, 0x00002200#32⟩ (by decide) rfl ((ctrlWord_masked obs false (ctrlOffset .pstart2) al 0x00#8).trans rfl)

theorem ctrlPstart2W (obs : Bool) (al : BitVec 5) (v : Byte) : Statement (.ctrlPstart2W obs al v) :=
  intro ⟨"CTRL.PSTART2.W", 0xFDF07F00#32, 0x01002200#32⟩ (by decide) rfl ((ctrlWord_masked obs true (ctrlOffset .pstart2) al v).trans rfl)

theorem ctrlPend0R (obs : Bool) (al : BitVec 5) : Statement (.ctrlPend0R obs al) :=
  intro ⟨"CTRL.PEND0.R", 0xFDF07F00#32, 0x00002300#32⟩ (by decide) rfl ((ctrlWord_masked obs false (ctrlOffset .pend0) al 0x00#8).trans rfl)

theorem ctrlPend0W (obs : Bool) (al : BitVec 5) (v : Byte) : Statement (.ctrlPend0W obs al v) :=
  intro ⟨"CTRL.PEND0.W", 0xFDF07F00#32, 0x01002300#32⟩ (by decide) rfl ((ctrlWord_masked obs true (ctrlOffset .pend0) al v).trans rfl)

theorem ctrlPend1R (obs : Bool) (al : BitVec 5) : Statement (.ctrlPend1R obs al) :=
  intro ⟨"CTRL.PEND1.R", 0xFDF07F00#32, 0x00002400#32⟩ (by decide) rfl ((ctrlWord_masked obs false (ctrlOffset .pend1) al 0x00#8).trans rfl)

theorem ctrlPend1W (obs : Bool) (al : BitVec 5) (v : Byte) : Statement (.ctrlPend1W obs al v) :=
  intro ⟨"CTRL.PEND1.W", 0xFDF07F00#32, 0x01002400#32⟩ (by decide) rfl ((ctrlWord_masked obs true (ctrlOffset .pend1) al v).trans rfl)

theorem ctrlPend2R (obs : Bool) (al : BitVec 5) : Statement (.ctrlPend2R obs al) :=
  intro ⟨"CTRL.PEND2.R", 0xFDF07F00#32, 0x00002500#32⟩ (by decide) rfl ((ctrlWord_masked obs false (ctrlOffset .pend2) al 0x00#8).trans rfl)

theorem ctrlPend2W (obs : Bool) (al : BitVec 5) (v : Byte) : Statement (.ctrlPend2W obs al v) :=
  intro ⟨"CTRL.PEND2.W", 0xFDF07F00#32, 0x01002500#32⟩ (by decide) rfl ((ctrlWord_masked obs true (ctrlOffset .pend2) al v).trans rfl)

theorem ctrlMiscR (obs : Bool) (al : BitVec 5) : Statement (.ctrlMiscR obs al) :=
  intro ⟨"CTRL.MISC.R", 0xFDF07F00#32, 0x00002800#32⟩ (by decide) rfl ((ctrlWord_masked obs false (ctrlOffset .misc) al 0x00#8).trans rfl)

theorem ctrlMiscW (obs : Bool) (al : BitVec 5) (v : Byte) : Statement (.ctrlMiscW obs al v) :=
  intro ⟨"CTRL.MISC.W", 0xFDF07F00#32, 0x01002800#32⟩ (by decide) rfl ((ctrlWord_masked obs true (ctrlOffset .misc) al v).trans rfl)

theorem ctrlStack0R (obs : Bool) (al : BitVec 5) : Statement (.ctrlStack0R obs al) :=
  intro ⟨"CTRL.STACK0.R", 0xFDF07F00#32, 0x00003A00#32⟩ (by decide) rfl ((ctrlWord_masked obs false (ctrlOffset .stack0) al 0x00#8).trans rfl)

theorem ctrlStack0W (obs : Bool) (al : BitVec 5) (v : Byte) : Statement (.ctrlStack0W obs al v) :=
  intro ⟨"CTRL.STACK0.W", 0xFDF07F00#32, 0x01003A00#32⟩ (by decide) rfl ((ctrlWord_masked obs true (ctrlOffset .stack0) al v).trans rfl)

theorem ctrlStack1R (obs : Bool) (al : BitVec 5) : Statement (.ctrlStack1R obs al) :=
  intro ⟨"CTRL.STACK1.R", 0xFDF07F00#32, 0x00003B00#32⟩ (by decide) rfl ((ctrlWord_masked obs false (ctrlOffset .stack1) al 0x00#8).trans rfl)

theorem ctrlStack1W (obs : Bool) (al : BitVec 5) (v : Byte) : Statement (.ctrlStack1W obs al v) :=
  intro ⟨"CTRL.STACK1.W", 0xFDF07F00#32, 0x01003B00#32⟩ (by decide) rfl ((ctrlWord_masked obs true (ctrlOffset .stack1) al v).trans rfl)

theorem ctrlStack2R (obs : Bool) (al : BitVec 5) : Statement (.ctrlStack2R obs al) :=
  intro ⟨"CTRL.STACK2.R", 0xFDF07F00#32, 0x00003C00#32⟩ (by decide) rfl ((ctrlWord_masked obs false (ctrlOffset .stack2) al 0x00#8).trans rfl)

theorem ctrlStack2W (obs : Bool) (al : BitVec 5) (v : Byte) : Statement (.ctrlStack2W obs al v) :=
  intro ⟨"CTRL.STACK2.W", 0xFDF07F00#32, 0x01003C00#32⟩ (by decide) rfl ((ctrlWord_masked obs true (ctrlOffset .stack2) al v).trans rfl)

theorem ctrlPstatusR (obs : Bool) (al : BitVec 5) : Statement (.ctrlPstatusR obs al) :=
  intro ⟨"CTRL.PSTATUS.R", 0xFDF07F00#32, 0x00003D00#32⟩ (by decide) rfl ((ctrlWord_masked obs false (ctrlOffset .pstatus) al 0x00#8).trans rfl)

theorem ctrlPstatusW (obs : Bool) (al : BitVec 5) (v : Byte) : Statement (.ctrlPstatusW obs al v) :=
  intro ⟨"CTRL.PSTATUS.W", 0xFDF07F00#32, 0x01003D00#32⟩ (by decide) rfl ((ctrlWord_masked obs true (ctrlOffset .pstatus) al v).trans rfl)

theorem ctrlPackR (obs : Bool) (al : BitVec 5) : Statement (.ctrlPackR obs al) :=
  intro ⟨"CTRL.PACK.R", 0xFDF07F00#32, 0x00003E00#32⟩ (by decide) rfl ((ctrlWord_masked obs false (ctrlOffset .pack) al 0x00#8).trans rfl)

theorem ctrlPackW (obs : Bool) (al : BitVec 5) (v : Byte) : Statement (.ctrlPackW obs al v) :=
  intro ⟨"CTRL.PACK.W", 0xFDF07F00#32, 0x01003E00#32⟩ (by decide) rfl ((ctrlWord_masked obs true (ctrlOffset .pack) al v).trans rfl)

theorem ctrlRawR (obs : Bool) (al : BitVec 5) (off : BitVec 7) : Statement (.ctrlRawR obs al off) :=
  intro ⟨"CTRL.RAW.R", 0xFDF00000#32, 0x00000000#32⟩ (by decide) rfl ((ctrlRawWord_masked obs false off al 0x00#8).trans rfl)

theorem ctrlRawW (obs : Bool) (al : BitVec 5) (off : BitVec 7) (v : Byte) : Statement (.ctrlRawW obs al off v) :=
  intro ⟨"CTRL.RAW.W", 0xFDF00000#32, 0x01000000#32⟩ (by decide) rfl ((ctrlRawWord_masked obs true off al v).trans rfl)

theorem usbUsbstsR (obs : Bool) (al : BitVec 3) (lane : BitVec 2) : Statement (.usbUsbstsR obs al lane) :=
  intro ⟨"USB.USBSTS.R", 0xFDF1FC00#32, 0x00301400#32⟩ (by decide) rfl ((usbWord_masked obs false (usbLane .usbsts lane) al 0x00#8).trans (by rw [usbLane_base]; rfl))

theorem usbUsbstsW (obs : Bool) (al : BitVec 3) (lane : BitVec 2) (v : Byte) : Statement (.usbUsbstsW obs al lane v) :=
  intro ⟨"USB.USBSTS.W", 0xFDF1FC00#32, 0x01301400#32⟩ (by decide) rfl ((usbWord_masked obs true (usbLane .usbsts lane) al v).trans (by rw [usbLane_base]; rfl))

theorem usbUsbintrR (obs : Bool) (al : BitVec 3) (lane : BitVec 2) : Statement (.usbUsbintrR obs al lane) :=
  intro ⟨"USB.USBINTR.R", 0xFDF1FC00#32, 0x00301800#32⟩ (by decide) rfl ((usbWord_masked obs false (usbLane .usbintr lane) al 0x00#8).trans (by rw [usbLane_base]; rfl))

theorem usbUsbintrW (obs : Bool) (al : BitVec 3) (lane : BitVec 2) (v : Byte) : Statement (.usbUsbintrW obs al lane v) :=
  intro ⟨"USB.USBINTR.W", 0xFDF1FC00#32, 0x01301800#32⟩ (by decide) rfl ((usbWord_masked obs true (usbLane .usbintr lane) al v).trans (by rw [usbLane_base]; rfl))

theorem usbOtgisrR (obs : Bool) (al : BitVec 3) (lane : BitVec 2) : Statement (.usbOtgisrR obs al lane) :=
  intro ⟨"USB.OTGISR.R", 0xFDF1FC00#32, 0x00308400#32⟩ (by decide) rfl ((usbWord_masked obs false (usbLane .otgisr lane) al 0x00#8).trans (by rw [usbLane_base]; rfl))

theorem usbOtgisrW (obs : Bool) (al : BitVec 3) (lane : BitVec 2) (v : Byte) : Statement (.usbOtgisrW obs al lane v) :=
  intro ⟨"USB.OTGISR.W", 0xFDF1FC00#32, 0x01308400#32⟩ (by decide) rfl ((usbWord_masked obs true (usbLane .otgisr lane) al v).trans (by rw [usbLane_base]; rfl))

theorem usbOtgierR (obs : Bool) (al : BitVec 3) (lane : BitVec 2) : Statement (.usbOtgierR obs al lane) :=
  intro ⟨"USB.OTGIER.R", 0xFDF1FC00#32, 0x00308800#32⟩ (by decide) rfl ((usbWord_masked obs false (usbLane .otgier lane) al 0x00#8).trans (by rw [usbLane_base]; rfl))

theorem usbOtgierW (obs : Bool) (al : BitVec 3) (lane : BitVec 2) (v : Byte) : Statement (.usbOtgierW obs al lane v) :=
  intro ⟨"USB.OTGIER.W", 0xFDF1FC00#32, 0x01308800#32⟩ (by decide) rfl ((usbWord_masked obs true (usbLane .otgier lane) al v).trans (by rw [usbLane_base]; rfl))

theorem usbGisrR (obs : Bool) (al : BitVec 3) (lane : BitVec 2) : Statement (.usbGisrR obs al lane) :=
  intro ⟨"USB.GISR.R", 0xFDF1FC00#32, 0x0030C000#32⟩ (by decide) rfl ((usbWord_masked obs false (usbLane .gisr lane) al 0x00#8).trans (by rw [usbLane_base]; rfl))

theorem usbGisrW (obs : Bool) (al : BitVec 3) (lane : BitVec 2) (v : Byte) : Statement (.usbGisrW obs al lane v) :=
  intro ⟨"USB.GISR.W", 0xFDF1FC00#32, 0x0130C000#32⟩ (by decide) rfl ((usbWord_masked obs true (usbLane .gisr lane) al v).trans (by rw [usbLane_base]; rfl))

theorem usbGmirR (obs : Bool) (al : BitVec 3) (lane : BitVec 2) : Statement (.usbGmirR obs al lane) :=
  intro ⟨"USB.GMIR.R", 0xFDF1FC00#32, 0x0030C400#32⟩ (by decide) rfl ((usbWord_masked obs false (usbLane .gmir lane) al 0x00#8).trans (by rw [usbLane_base]; rfl))

theorem usbGmirW (obs : Bool) (al : BitVec 3) (lane : BitVec 2) (v : Byte) : Statement (.usbGmirW obs al lane v) :=
  intro ⟨"USB.GMIR.W", 0xFDF1FC00#32, 0x0130C400#32⟩ (by decide) rfl ((usbWord_masked obs true (usbLane .gmir lane) al v).trans (by rw [usbLane_base]; rfl))

theorem usbDcfesrR (obs : Bool) (al : BitVec 3) (lane : BitVec 2) : Statement (.usbDcfesrR obs al lane) :=
  intro ⟨"USB.DCFESR.R", 0xFDF1FC00#32, 0x00312000#32⟩ (by decide) rfl ((usbWord_masked obs false (usbLane .dcfesr lane) al 0x00#8).trans (by rw [usbLane_base]; rfl))

theorem usbDcfesrW (obs : Bool) (al : BitVec 3) (lane : BitVec 2) (v : Byte) : Statement (.usbDcfesrW obs al lane v) :=
  intro ⟨"USB.DCFESR.W", 0xFDF1FC00#32, 0x01312000#32⟩ (by decide) rfl ((usbWord_masked obs true (usbLane .dcfesr lane) al v).trans (by rw [usbLane_base]; rfl))

theorem usbDmigrR (obs : Bool) (al : BitVec 3) (lane : BitVec 2) : Statement (.usbDmigrR obs al lane) :=
  intro ⟨"USB.DMIGR.R", 0xFDF1FC00#32, 0x00313000#32⟩ (by decide) rfl ((usbWord_masked obs false (usbLane .dmigr lane) al 0x00#8).trans (by rw [usbLane_base]; rfl))

theorem usbDmigrW (obs : Bool) (al : BitVec 3) (lane : BitVec 2) (v : Byte) : Statement (.usbDmigrW obs al lane v) :=
  intro ⟨"USB.DMIGR.W", 0xFDF1FC00#32, 0x01313000#32⟩ (by decide) rfl ((usbWord_masked obs true (usbLane .dmigr lane) al v).trans (by rw [usbLane_base]; rfl))

theorem usbDmisg0R (obs : Bool) (al : BitVec 3) (lane : BitVec 2) : Statement (.usbDmisg0R obs al lane) :=
  intro ⟨"USB.DMISG0.R", 0xFDF1FC00#32, 0x00313400#32⟩ (by decide) rfl ((usbWord_masked obs false (usbLane .dmisg0 lane) al 0x00#8).trans (by rw [usbLane_base]; rfl))

theorem usbDmisg0W (obs : Bool) (al : BitVec 3) (lane : BitVec 2) (v : Byte) : Statement (.usbDmisg0W obs al lane v) :=
  intro ⟨"USB.DMISG0.W", 0xFDF1FC00#32, 0x01313400#32⟩ (by decide) rfl ((usbWord_masked obs true (usbLane .dmisg0 lane) al v).trans (by rw [usbLane_base]; rfl))

theorem usbDmisg1R (obs : Bool) (al : BitVec 3) (lane : BitVec 2) : Statement (.usbDmisg1R obs al lane) :=
  intro ⟨"USB.DMISG1.R", 0xFDF1FC00#32, 0x00313800#32⟩ (by decide) rfl ((usbWord_masked obs false (usbLane .dmisg1 lane) al 0x00#8).trans (by rw [usbLane_base]; rfl))

theorem usbDmisg1W (obs : Bool) (al : BitVec 3) (lane : BitVec 2) (v : Byte) : Statement (.usbDmisg1W obs al lane v) :=
  intro ⟨"USB.DMISG1.W", 0xFDF1FC00#32, 0x01313800#32⟩ (by decide) rfl ((usbWord_masked obs true (usbLane .dmisg1 lane) al v).trans (by rw [usbLane_base]; rfl))

theorem usbDmisg2R (obs : Bool) (al : BitVec 3) (lane : BitVec 2) : Statement (.usbDmisg2R obs al lane) :=
  intro ⟨"USB.DMISG2.R", 0xFDF1FC00#32, 0x00313C00#32⟩ (by decide) rfl ((usbWord_masked obs false (usbLane .dmisg2 lane) al 0x00#8).trans (by rw [usbLane_base]; rfl))

theorem usbDmisg2W (obs : Bool) (al : BitVec 3) (lane : BitVec 2) (v : Byte) : Statement (.usbDmisg2W obs al lane v) :=
  intro ⟨"USB.DMISG2.W", 0xFDF1FC00#32, 0x01313C00#32⟩ (by decide) rfl ((usbWord_masked obs true (usbLane .dmisg2 lane) al v).trans (by rw [usbLane_base]; rfl))

theorem usbDigrR (obs : Bool) (al : BitVec 3) (lane : BitVec 2) : Statement (.usbDigrR obs al lane) :=
  intro ⟨"USB.DIGR.R", 0xFDF1FC00#32, 0x00314000#32⟩ (by decide) rfl ((usbWord_masked obs false (usbLane .digr lane) al 0x00#8).trans (by rw [usbLane_base]; rfl))

theorem usbDigrW (obs : Bool) (al : BitVec 3) (lane : BitVec 2) (v : Byte) : Statement (.usbDigrW obs al lane v) :=
  intro ⟨"USB.DIGR.W", 0xFDF1FC00#32, 0x01314000#32⟩ (by decide) rfl ((usbWord_masked obs true (usbLane .digr lane) al v).trans (by rw [usbLane_base]; rfl))

theorem usbDisg0R (obs : Bool) (al : BitVec 3) (lane : BitVec 2) : Statement (.usbDisg0R obs al lane) :=
  intro ⟨"USB.DISG0.R", 0xFDF1FC00#32, 0x00314400#32⟩ (by decide) rfl ((usbWord_masked obs false (usbLane .disg0 lane) al 0x00#8).trans (by rw [usbLane_base]; rfl))

theorem usbDisg0W (obs : Bool) (al : BitVec 3) (lane : BitVec 2) (v : Byte) : Statement (.usbDisg0W obs al lane v) :=
  intro ⟨"USB.DISG0.W", 0xFDF1FC00#32, 0x01314400#32⟩ (by decide) rfl ((usbWord_masked obs true (usbLane .disg0 lane) al v).trans (by rw [usbLane_base]; rfl))

theorem usbDisg1R (obs : Bool) (al : BitVec 3) (lane : BitVec 2) : Statement (.usbDisg1R obs al lane) :=
  intro ⟨"USB.DISG1.R", 0xFDF1FC00#32, 0x00314800#32⟩ (by decide) rfl ((usbWord_masked obs false (usbLane .disg1 lane) al 0x00#8).trans (by rw [usbLane_base]; rfl))

theorem usbDisg1W (obs : Bool) (al : BitVec 3) (lane : BitVec 2) (v : Byte) : Statement (.usbDisg1W obs al lane v) :=
  intro ⟨"USB.DISG1.W", 0xFDF1FC00#32, 0x01314800#32⟩ (by decide) rfl ((usbWord_masked obs true (usbLane .disg1 lane) al v).trans (by rw [usbLane_base]; rfl))

theorem usbDisg2R (obs : Bool) (al : BitVec 3) (lane : BitVec 2) : Statement (.usbDisg2R obs al lane) :=
  intro ⟨"USB.DISG2.R", 0xFDF1FC00#32, 0x00314C00#32⟩ (by decide) rfl ((usbWord_masked obs false (usbLane .disg2 lane) al 0x00#8).trans (by rw [usbLane_base]; rfl))

theorem usbDisg2W (obs : Bool) (al : BitVec 3) (lane : BitVec 2) (v : Byte) : Statement (.usbDisg2W obs al lane v) :=
  intro ⟨"USB.DISG2.W", 0xFDF1FC00#32, 0x01314C00#32⟩ (by decide) rfl ((usbWord_masked obs true (usbLane .disg2 lane) al v).trans (by rw [usbLane_base]; rfl))

theorem usbCxportR (obs : Bool) (al : BitVec 3) (lane : BitVec 2) : Statement (.usbCxportR obs al lane) :=
  intro ⟨"USB.CXPORT.R", 0xFDF1FC00#32, 0x0031D000#32⟩ (by decide) rfl ((usbWord_masked obs false (usbLane .cxport lane) al 0x00#8).trans (by rw [usbLane_base]; rfl))

theorem usbCxportW (obs : Bool) (al : BitVec 3) (lane : BitVec 2) (v : Byte) : Statement (.usbCxportW obs al lane v) :=
  intro ⟨"USB.CXPORT.W", 0xFDF1FC00#32, 0x0131D000#32⟩ (by decide) rfl ((usbWord_masked obs true (usbLane .cxport lane) al v).trans (by rw [usbLane_base]; rfl))

theorem usbRawR (obs : Bool) (al : BitVec 3) (off : BitVec 9) : Statement (.usbRawR obs al off) :=
  intro ⟨"USB.RAW.R", 0xFDF00000#32, 0x00300000#32⟩ (by decide) rfl ((usbRawWord_masked obs false off al 0x00#8).trans rfl)

theorem usbRawW (obs : Bool) (al : BitVec 3) (off : BitVec 9) (v : Byte) : Statement (.usbRawW obs al off v) :=
  intro ⟨"USB.RAW.W", 0xFDF00000#32, 0x01300000#32⟩ (by decide) rfl ((usbRawWord_masked obs true off al v).trans rfl)

theorem extR (obs : Bool) (k : RangeNo) (l : Offset) : Statement (.extR obs k l) :=
  intro ⟨"EXT.R", 0xFD000000#32, 0x00000000#32⟩ (by decide) rfl ((extWord_masked obs false (extAddr k l) 0x00#8).trans rfl)

theorem extW (obs : Bool) (k : RangeNo) (l : Offset) (v : Byte) : Statement (.extW obs k l v) :=
  intro ⟨"EXT.W", 0xFD000000#32, 0x01000000#32⟩ (by decide) rfl ((extWord_masked obs true (extAddr k l) v).trans rfl)

theorem sbColdInit : Statement .sbColdInit :=
  intro ⟨"SB.COLD_INIT", 0xFFFFFFFF#32, 0x81000000#32⟩ (by decide) rfl ((sbWord_masked .coldInit _).trans rfl)

theorem sbGlobalReset : Statement .sbGlobalReset :=
  intro ⟨"SB.GLOBAL_RESET", 0xFFFFFFFF#32, 0x82000000#32⟩ (by decide) rfl ((sbWord_masked .globalReset _).trans rfl)

theorem sbUsbReset : Statement .sbUsbReset :=
  intro ⟨"SB.USB_RESET", 0xFFFFFFFF#32, 0x83000000#32⟩ (by decide) rfl ((sbWord_masked .usbReset _).trans rfl)

theorem sbPrivCheck (pc : Word24) : Statement (.sbPrivCheck pc) :=
  intro ⟨"SB.PRIV_CHECK", 0xFFFFFFFF#32, 0x84000000#32⟩ (by decide) rfl ((sbWord_masked .privCheck _).trans rfl)

theorem sbLatchViolation (bits : Byte) : Statement (.sbLatchViolation bits) :=
  intro ⟨"SB.LATCH_VIOLATION", 0xFFFFFFFF#32, 0x85000000#32⟩ (by decide) rfl ((sbWord_masked .latchViolation _).trans rfl)

theorem sbSetBatteryLevel (level : BatteryLevel) : Statement (.sbSetBatteryLevel level) :=
  intro ⟨"SB.SET_BATTERY_LEVEL", 0xFFFFFFFF#32, 0x86000000#32⟩ (by decide) rfl ((sbWord_masked .setBatteryLevel _).trans rfl)

theorem sbSetCharging (b : Bool) : Statement (.sbSetCharging b) :=
  intro ⟨"SB.SET_CHARGING", 0xFFFFFFFF#32, 0x87000000#32⟩ (by decide) rfl ((sbWord_masked .setCharging _).trans rfl)

theorem sbSetDebugConfig (cfg : DebugConfig) : Statement (.sbSetDebugConfig cfg) :=
  intro ⟨"SB.SET_DEBUG_CONFIG", 0xFFFFFFFF#32, 0x88000000#32⟩ (by decide) rfl ((sbWord_masked .setDebugConfig _).trans rfl)

theorem sbUsbHostInt (bits : Byte) : Statement (.sbUsbHostInt bits) :=
  intro ⟨"SB.USB_HOST_INT", 0xFFFFFFFF#32, 0x89000000#32⟩ (by decide) rfl ((sbWord_masked .usbHostInt _).trans rfl)

theorem sbUsbOtgInt (bits : Word32) : Statement (.sbUsbOtgInt bits) :=
  intro ⟨"SB.USB_OTG_INT", 0xFFFFFFFF#32, 0x8A000000#32⟩ (by decide) rfl ((sbWord_masked .usbOtgInt _).trans rfl)

theorem sbUsbGrp0Int (bits : Byte) : Statement (.sbUsbGrp0Int bits) :=
  intro ⟨"SB.USB_GRP0_INT", 0xFFFFFFFF#32, 0x8B000000#32⟩ (by decide) rfl ((sbWord_masked .usbGrp0Int _).trans rfl)

theorem sbUsbGrp1Int (bits : Word32) : Statement (.sbUsbGrp1Int bits) :=
  intro ⟨"SB.USB_GRP1_INT", 0xFFFFFFFF#32, 0x8C000000#32⟩ (by decide) rfl ((sbWord_masked .usbGrp1Int _).trans rfl)

theorem sbUsbGrp2Int (bits : BitVec 16) : Statement (.sbUsbGrp2Int bits) :=
  intro ⟨"SB.USB_GRP2_INT", 0xFFFFFFFF#32, 0x8D000000#32⟩ (by decide) rfl ((sbWord_masked .usbGrp2Int _).trans rfl)

theorem sbUsbSetup (bytes : List Byte) : Statement (.sbUsbSetup bytes) :=
  intro ⟨"SB.USB_SETUP", 0xFFFFFFFF#32, 0x8E000000#32⟩ (by decide) rfl ((sbWord_masked .usbSetup _).trans rfl)

theorem sbUsbQueueSend (buf : HostPtr) (len : Nat) : Statement (.sbUsbQueueSend buf len) :=
  intro ⟨"SB.USB_QUEUE_SEND", 0xFFFFFFFF#32, 0x8F000000#32⟩ (by decide) rfl ((sbWord_masked .usbQueueSend _).trans rfl)

theorem sbUsbServeIn : Statement .sbUsbServeIn :=
  intro ⟨"SB.USB_SERVE_IN", 0xFFFFFFFF#32, 0x90000000#32⟩ (by decide) rfl ((sbWord_masked .usbServeIn _).trans rfl)

theorem sbUsbStatusSummary : Statement .sbUsbStatusSummary :=
  intro ⟨"SB.USB_STATUS_SUMMARY", 0xFFFFFFFF#32, 0x91000000#32⟩ (by decide) rfl ((sbWord_masked .usbStatusSummary _).trans rfl)

theorem sbSnapshotSave : Statement .sbSnapshotSave :=
  intro ⟨"SB.SNAPSHOT_SAVE", 0xFFFFFFFF#32, 0x92000000#32⟩ (by decide) rfl ((sbWord_masked .snapshotSave _).trans rfl)

theorem sbSnapshotRestore (snap : Snapshot) : Statement (.sbSnapshotRestore snap) :=
  intro ⟨"SB.SNAPSHOT_RESTORE", 0xFFFFFFFF#32, 0x93000000#32⟩ (by decide) rfl ((sbWord_masked .snapshotRestore _).trans rfl)

theorem sbPowerState : Statement .sbPowerState :=
  intro ⟨"SB.POWER_STATE", 0xFFFFFFFF#32, 0x94000000#32⟩ (by decide) rfl ((sbWord_masked .powerState _).trans rfl)

end Sys2Proof.Laws.TableRow
end

