-- ==== Sys2Proof/Tests/Slice0.lean ====
section
/-! SUPPORT. The model's own tests, each a named theorem: the well-formedness smoke tests, one written-out word for every
constructor, the refusals, one-step tests from spec/95_test_vectors.md, and for every obligation with hypotheses a
witness that meets them. -/

namespace Sys2Proof.Tests

open Machine

/-! ### Helpers -/

/-- The decoder reads `i` from the word `w` with `ops` beside it. -/
def decodesTo (w : Word32) (ops : List Operand) (i : Instr) : Bool :=
  match decode ⟨w, ops⟩ with
  | .ok j => decide (j = i)
  | .error _ => false

/-- The decoder refuses the word `w` with `ops` beside it, for the reason `e`. -/
def refusedAs (w : Word32) (ops : List Operand) (e : DecodeError) : Bool :=
  match decode ⟨w, ops⟩ with
  | .ok _ => false
  | .error d => decide (d = e)

/-- One step runs the word `w` with `ops` beside it, and the state after satisfies `p`. -/
def runs (s : State) (w : Word32) (ops : List Operand) (p : State → Bool) : Bool :=
  match step (s.enqueue ⟨w, ops⟩) with
  | .next t => p t
  | _ => false

/-- One step of a read word answers byte `v` and emits nothing. -/
def answers (s : State) (w : Word32) (v : Byte) : Bool := runs s w [] (fun t => decide (t.out = ⟨[], .byte v⟩))

/-- The state after cold init with another ControlDevice record. -/
def withCtrl (c : CtrlState) : State := State.reset.setCtrl c

/-- The state after cold init with another USB record. -/
def withUsb (u : UsbState) : State := State.reset.setUsb u

/-- The state after cold init with bytes `m` in the USB register block. -/
def withRegs (m : Memory) : State := State.reset.setUsb { UsbState.cleared with regs := m }

/-- The setup packet of spec/95_test_vectors.md E2. -/
def packet : List Byte := [0x80#8, 0x06#8, 0x00#8, 0x01#8, 0x00#8, 0x00#8, 0x40#8, 0x00#8]

/-- A debugger that watches reads of 0x0002, and watches and freezes writes of 0x0001. -/
def watching : DebugConfig := ⟨true, true, [0x0002#16], [0x0001#16], [0x0001#16]⟩

/-- A ready block in the middle of its work: a debugger attached, data pending, a battery sequence under way. -/
def busy : State where
  initialised := true
  bus := BusState.bound
  ctrl :=
    { CtrlState.coldInit with
      ports := [(0x06, 0xA5#8), (0x07, 0x90#8), (0x0F, 0x02#8)], cpuSpeedCode := 0x13#5, batteryReadState := 0x05#8,
      batteryCharging := true, protectionStatus := 0x07#8 }
  usb :=
    { regs := [(0x014, 0x21#8), (0x100, 0x5A#8), (0x144, 0x09#8)]
      ep0Buffer := setupBytes packet, ep0Index := 2, transferState := .dataStage, pendingBuffer := .pos 1000,
      pendingLength := 100 }
  dbg := watching
  inputs := []
  out := ⟨[], .none⟩
  draws := 3

/-- A block before cold init (10_state.md R19): no range is bound. -/
def cold : State := { State.reset with initialised := false, bus := ⟨Vector.replicate 16 .unbound⟩ }

/-- An initialised block on which range 5 alone has no handler. -/
def unbound5 : State := { State.reset with bus := ⟨BusState.bound.binding.set 5 .unbound⟩ }

/-- A ControlDevice record that no run reaches (93_implementation_defined.md I2). -/
def crooked : CtrlState := { CtrlState.coldInit with batteryReadState := 0x02#8, cpuSpeedCode := 0x0C#5 }

/-- A snapshot record of another layout. -/
def foreign : Snapshot := ⟨.other 7, CtrlState.coldInit, UsbState.cleared⟩

/-! ### Well-formedness: one ill-formed term for each check -/

theorem test_wf_ctrl_raw_read_named_offset : Instr.wf (.ctrlRawR true 0#5 0x01#7) = false := by decide
theorem test_wf_ctrl_raw_write_named_offset : Instr.wf (.ctrlRawW true 0#5 0x3E#7 0xFF#8) = false := by decide
theorem test_wf_usb_raw_read_named_offset : Instr.wf (.usbRawR true 0#3 0x017#9) = false := by decide
theorem test_wf_usb_raw_write_named_offset : Instr.wf (.usbRawW true 0#3 0x1D3#9 0xFF#8) = false := by decide
theorem test_wf_ext_read_ctrl_range : Instr.wf (.extR true 0x0#4 0x001#12) = false := by decide
theorem test_wf_ext_read_usb_range : Instr.wf (.extR true 0x3#4 0x001#12) = false := by decide
theorem test_wf_ext_write_ctrl_range : Instr.wf (.extW true 0x0#4 0x001#12 0x00#8) = false := by decide
theorem test_wf_ext_write_usb_range : Instr.wf (.extW true 0x3#4 0x001#12 0x00#8) = false := by decide
theorem test_wf_debug_map_unsorted :
    Instr.wf (.sbSetDebugConfig ⟨true, false, [2#16, 1#16], [], []⟩) = false := by decide
theorem test_wf_debug_map_repeated :
    Instr.wf (.sbSetDebugConfig ⟨true, false, [], [1#16, 1#16], []⟩) = false := by decide
theorem test_wf_debug_freeze_unsorted :
    Instr.wf (.sbSetDebugConfig ⟨true, false, [], [], [0xFFFF#16, 0#16]⟩) = false := by decide
theorem test_wf_snapshot_zero_byte :
    Instr.wf (.sbSnapshotRestore { zeroSnapshot with ctrl := { CtrlState.coldInit with ports := [(3, 0#8)] } }) = false := by
  decide
theorem test_wf_snapshot_past_the_array :
    Instr.wf (.sbSnapshotRestore { zeroSnapshot with usb := { UsbState.cleared with regs := [(512, 1#8)] } }) = false := by
  decide
theorem test_wf_boundary_accepted :
    ([.ctrlRawR true 0#5 0x7F#7, .usbRawR true 0#3 0x013#9, .extR true 0xF#4 0xFFF#12,
      .sbSetDebugConfig ⟨true, false, [0#16, 0xFFFF#16], [], []⟩, .sbSnapshotRestore zeroSnapshot,
      .sbSnapshotRestore foreign] : List Instr).all Instr.wf = true := by decide

/-! ### Decoding: one word written out for every constructor -/

/-- 30_encoding.md R64, R68: `I`, `W` = 0, `K` = 0, five alias bits, the offset, a data byte that a read ignores. -/
theorem test_decode_ctrl_reads :
    ([
      (0b0_00000_0_0_0000_00111_0000000_00100000#32, .ctrlResetR true 0x07#5),
      (0b0_00000_1_0_0000_10101_0000001_01011010#32, .ctrlSpeedR false 0x15#5),
      (0b0_00000_0_0_0000_00011_0000010_10010100#32, .ctrlBattStatusR true 0x03#5),
      (0b0_00000_0_0_0000_10001_0000011_11001110#32, .ctrlDevtypeR true 0x11#5),
      (0b0_00000_1_0_0000_11111_0000111_00001000#32, .ctrlPowerModeR false 0x1F#5),
      (0b0_00000_0_0_0000_01101_0001001_01000010#32, .ctrlBattHsR true 0x0D#5),
      (0b0_00000_0_0_0000_11011_0001010_01111100#32, .ctrlChargeR true 0x1B#5),
      (0b0_00000_1_0_0000_01001_0001100_10110110#32, .ctrlShutdownR false 0x09#5),
      (0b0_00000_0_0_0000_10111_0001111_11110000#32, .ctrlUsbMirrorR true 0x17#5),
      (0b0_00000_0_0_0000_00101_0011101_00101010#32, .ctrlPriv0R true 0x05#5),
      (0b0_00000_1_0_0000_10011_0011110_01100100#32, .ctrlPriv1R false 0x13#5),
      (0b0_00000_0_0_0000_00001_0011111_10011110#32, .ctrlPriv2R true 0x01#5),
      (0b0_00000_0_0_0000_01111_0100000_11011000#32, .ctrlPstart0R true 0x0F#5),
      (0b0_00000_1_0_0000_11101_0100001_00010010#32, .ctrlPstart1R false 0x1D#5),
      (0b0_00000_0_0_0000_01011_0100010_01001100#32, .ctrlPstart2R true 0x0B#5),
      (0b0_00000_0_0_0000_11001_0100011_10000110#32, .ctrlPend0R true 0x19#5),
      (0b0_00000_1_0_0000_00111_0100100_11000000#32, .ctrlPend1R false 0x07#5),
      (0b0_00000_0_0_0000_10101_0100101_11111010#32, .ctrlPend2R true 0x15#5),
      (0b0_00000_0_0_0000_00011_0101000_00110100#32, .ctrlMiscR true 0x03#5),
      (0b0_00000_1_0_0000_10001_0111010_01101110#32, .ctrlStack0R false 0x11#5),
      (0b0_00000_0_0_0000_11111_0111011_10101000#32, .ctrlStack1R true 0x1F#5),
      (0b0_00000_0_0_0000_01101_0111100_11100010#32, .ctrlStack2R true 0x0D#5),
      (0b0_00000_1_0_0000_11011_0111101_00011100#32, .ctrlPstatusR false 0x1B#5),
      (0b0_00000_0_0_0000_01001_0111110_01010110#32, .ctrlPackR true 0x09#5),
      (0b0_00000_0_0_0000_10111_0000110_10010000#32, .ctrlRawR true 0x17#5 0x06#7)] : List (Word32 × Instr)).all
      (fun p => decodesTo p.1 [] p.2) = true := by decide

/-- 30_encoding.md R64, R68: `I`, `W` = 1, `K` = 0, five alias bits, the offset, the data byte. -/
theorem test_decode_ctrl_writes :
    ([
      (0b0_00000_0_1_0000_01110_0000000_00111101#32, .ctrlResetW true 0x0E#5 0x3D#8),
      (0b0_00000_0_1_0000_11100_0000001_01110111#32, .ctrlSpeedW true 0x1C#5 0x77#8),
      (0b0_00000_1_1_0000_01010_0000010_10110001#32, .ctrlBattStatusW false 0x0A#5 0xB1#8),
      (0b0_00000_0_1_0000_11000_0000011_11101011#32, .ctrlDevtypeW true 0x18#5 0xEB#8),
      (0b0_00000_0_1_0000_00110_0000111_00100101#32, .ctrlPowerModeW true 0x06#5 0x25#8),
      (0b0_00000_1_1_0000_10100_0001001_01011111#32, .ctrlBattHsW false 0x14#5 0x5F#8),
      (0b0_00000_0_1_0000_00010_0001010_10011001#32, .ctrlChargeW true 0x02#5 0x99#8),
      (0b0_00000_0_1_0000_10000_0001100_11010011#32, .ctrlShutdownW true 0x10#5 0xD3#8),
      (0b0_00000_1_1_0000_11110_0001111_00001101#32, .ctrlUsbMirrorW false 0x1E#5 0x0D#8),
      (0b0_00000_0_1_0000_01100_0011101_01000111#32, .ctrlPriv0W true 0x0C#5 0x47#8),
      (0b0_00000_0_1_0000_11010_0011110_10000001#32, .ctrlPriv1W true 0x1A#5 0x81#8),
      (0b0_00000_1_1_0000_01000_0011111_10111011#32, .ctrlPriv2W false 0x08#5 0xBB#8),
      (0b0_00000_0_1_0000_10110_0100000_11110101#32, .ctrlPstart0W true 0x16#5 0xF5#8),
      (0b0_00000_0_1_0000_00100_0100001_00101111#32, .ctrlPstart1W true 0x04#5 0x2F#8),
      (0b0_00000_1_1_0000_10010_0100010_01101001#32, .ctrlPstart2W false 0x12#5 0x69#8),
      (0b0_00000_0_1_0000_00000_0100011_10100011#32, .ctrlPend0W true 0x00#5 0xA3#8),
      (0b0_00000_0_1_0000_01110_0100100_11011101#32, .ctrlPend1W true 0x0E#5 0xDD#8),
      (0b0_00000_1_1_0000_11100_0100101_00010111#32, .ctrlPend2W false 0x1C#5 0x17#8),
      (0b0_00000_0_1_0000_01010_0101000_01010001#32, .ctrlMiscW true 0x0A#5 0x51#8),
      (0b0_00000_0_1_0000_11000_0111010_10001011#32, .ctrlStack0W true 0x18#5 0x8B#8),
      (0b0_00000_1_1_0000_00110_0111011_11000101#32, .ctrlStack1W false 0x06#5 0xC5#8),
      (0b0_00000_0_1_0000_10100_0111100_11111111#32, .ctrlStack2W true 0x14#5 0xFF#8),
      (0b0_00000_0_1_0000_00010_0111101_00111001#32, .ctrlPstatusW true 0x02#5 0x39#8),
      (0b0_00000_1_1_0000_10000_0111110_01110011#32, .ctrlPackW false 0x10#5 0x73#8),
      (0b0_00000_0_1_0000_11110_1111111_10101101#32, .ctrlRawW true 0x1E#5 0x7F#7 0xAD#8)] : List (Word32 × Instr)).all
      (fun p => decodesTo p.1 [] p.2) = true := by decide

/-- 30_encoding.md R64, R69: `K` = 3, three alias bits, the word offset, the byte lane, a data byte that a read ignores. -/
theorem test_decode_usb_reads :
    ([
      (0b0_00000_1_0_0011_001_0000101_00_11001010#32, .usbUsbstsR false 0x1#3 0#2),
      (0b0_00000_0_0_0011_111_0000110_11_00000100#32, .usbUsbintrR true 0x7#3 3#2),
      (0b0_00000_0_0_0011_101_0100001_10_00111110#32, .usbOtgisrR true 0x5#3 2#2),
      (0b0_00000_1_0_0011_011_0100010_01_01111000#32, .usbOtgierR false 0x3#3 1#2),
      (0b0_00000_0_0_0011_001_0110000_00_10110010#32, .usbGisrR true 0x1#3 0#2),
      (0b0_00000_0_0_0011_111_0110001_11_11101100#32, .usbGmirR true 0x7#3 3#2),
      (0b0_00000_1_0_0011_101_1001000_10_00100110#32, .usbDcfesrR false 0x5#3 2#2),
      (0b0_00000_0_0_0011_011_1001100_01_01100000#32, .usbDmigrR true 0x3#3 1#2),
      (0b0_00000_0_0_0011_001_1001101_00_10011010#32, .usbDmisg0R true 0x1#3 0#2),
      (0b0_00000_1_0_0011_111_1001110_11_11010100#32, .usbDmisg1R false 0x7#3 3#2),
      (0b0_00000_0_0_0011_101_1001111_10_00001110#32, .usbDmisg2R true 0x5#3 2#2),
      (0b0_00000_0_0_0011_011_1010000_01_01001000#32, .usbDigrR true 0x3#3 1#2),
      (0b0_00000_1_0_0011_001_1010001_00_10000010#32, .usbDisg0R false 0x1#3 0#2),
      (0b0_00000_0_0_0011_111_1010010_11_10111100#32, .usbDisg1R true 0x7#3 3#2),
      (0b0_00000_0_0_0011_101_1010011_10_11110110#32, .usbDisg2R true 0x5#3 2#2),
      (0b0_00000_1_0_0011_011_1110100_01_00110000#32, .usbCxportR false 0x3#3 1#2),
      (0b0_00000_0_0_0011_001_1000000_00_01101010#32, .usbRawR true 0x1#3 0x100#9)] : List (Word32 × Instr)).all
      (fun p => decodesTo p.1 [] p.2) = true := by decide

/-- 30_encoding.md R64, R69: `K` = 3, three alias bits, the word offset, the byte lane, the data byte. -/
theorem test_decode_usb_writes :
    ([
      (0b0_00000_0_1_0011_100_0000101_10_11100111#32, .usbUsbstsW true 0x4#3 2#2 0xE7#8),
      (0b0_00000_1_1_0011_010_0000110_01_00100001#32, .usbUsbintrW false 0x2#3 1#2 0x21#8),
      (0b0_00000_0_1_0011_000_0100001_00_01011011#32, .usbOtgisrW true 0x0#3 0#2 0x5B#8),
      (0b0_00000_0_1_0011_110_0100010_11_10010101#32, .usbOtgierW true 0x6#3 3#2 0x95#8),
      (0b0_00000_1_1_0011_100_0110000_10_11001111#32, .usbGisrW false 0x4#3 2#2 0xCF#8),
      (0b0_00000_0_1_0011_010_0110001_01_00001001#32, .usbGmirW true 0x2#3 1#2 0x09#8),
      (0b0_00000_0_1_0011_000_1001000_00_01000011#32, .usbDcfesrW true 0x0#3 0#2 0x43#8),
      (0b0_00000_1_1_0011_110_1001100_11_01111101#32, .usbDmigrW false 0x6#3 3#2 0x7D#8),
      (0b0_00000_0_1_0011_100_1001101_10_10110111#32, .usbDmisg0W true 0x4#3 2#2 0xB7#8),
      (0b0_00000_0_1_0011_010_1001110_01_11110001#32, .usbDmisg1W true 0x2#3 1#2 0xF1#8),
      (0b0_00000_1_1_0011_000_1001111_00_00101011#32, .usbDmisg2W false 0x0#3 0#2 0x2B#8),
      (0b0_00000_0_1_0011_110_1010000_11_01100101#32, .usbDigrW true 0x6#3 3#2 0x65#8),
      (0b0_00000_0_1_0011_100_1010001_10_10011111#32, .usbDisg0W true 0x4#3 2#2 0x9F#8),
      (0b0_00000_1_1_0011_010_1010010_01_11011001#32, .usbDisg1W false 0x2#3 1#2 0xD9#8),
      (0b0_00000_0_1_0011_000_1010011_00_00010011#32, .usbDisg2W true 0x0#3 0#2 0x13#8),
      (0b0_00000_0_1_0011_110_1110100_11_01001101#32, .usbCxportW true 0x6#3 3#2 0x4D#8),
      (0b0_00000_1_1_0011_100_1111111_11_10000111#32, .usbRawW false 0x4#3 0x1FF#9 0x87#8)] : List (Word32 × Instr)).all
      (fun p => decodesTo p.1 [] p.2) = true := by decide

/-- 30_encoding.md R64, R70: a range that is neither 0 nor 3, the twelve low address bits, the data byte. -/
theorem test_decode_ext :
    ([
      (0b0_00000_0_0_0001_111111111111_10000000#32, .extR true 0x1#4 0xFFF#12),
      (0b0_00000_0_0_0101_000000000100_00000001#32, .extR true 0x5#4 0x004#12),
      (0b0_00000_0_0_1111_100000000000_11111111#32, .extR true 0xF#4 0x800#12),
      (0b0_00000_0_1_0001_111111111111_10000000#32, .extW true 0x1#4 0xFFF#12 0x80#8),
      (0b0_00000_0_1_0101_000000000100_00000001#32, .extW true 0x5#4 0x004#12 0x01#8),
      (0b0_00000_0_1_1111_100000000000_11111111#32, .extW true 0xF#4 0x800#12 0xFF#8)] : List (Word32 × Instr)).all
      (fun p => decodesTo p.1 [] p.2) = true := by decide

/-- 30_encoding.md R65, R71: bit 31, the operation number in bits 30:24, zeros below, and the typed operands. -/
theorem test_decode_side_band :
    ([
      (0b1_0000001_000000000000000000000000#32, [], .sbColdInit),
      (0b1_0000010_000000000000000000000000#32, [], .sbGlobalReset),
      (0b1_0000011_000000000000000000000000#32, [], .sbUsbReset),
      (0b1_0000100_000000000000000000000000#32, [.u24 0x000150#24], .sbPrivCheck 0x000150#24),
      (0b1_0000101_000000000000000000000000#32, [.u8 0x07#8], .sbLatchViolation 0x07#8),
      (0b1_0000110_000000000000000000000000#32, [.nat 5], .sbSetBatteryLevel .discharged),
      (0b1_0000111_000000000000000000000000#32, [.bool true], .sbSetCharging true),
      (0b1_0001000_000000000000000000000000#32, [.debugConfig watching], .sbSetDebugConfig watching),
      (0b1_0001001_000000000000000000000000#32, [.u8 0x21#8], .sbUsbHostInt 0x21#8),
      (0b1_0001010_000000000000000000000000#32, [.u32 0x00000100#32], .sbUsbOtgInt 0x00000100#32),
      (0b1_0001011_000000000000000000000000#32, [.u8 0x08#8], .sbUsbGrp0Int 0x08#8),
      (0b1_0001100_000000000000000000000000#32, [.u32 0x80000000#32], .sbUsbGrp1Int 0x80000000#32),
      (0b1_0001101_000000000000000000000000#32, [.u16 0x0100#16], .sbUsbGrp2Int 0x0100#16),
      (0b1_0001110_000000000000000000000000#32, [.bytes packet], .sbUsbSetup packet),
      (0b1_0001111_000000000000000000000000#32, [.ptr (.pos 9), .nat 100], .sbUsbQueueSend (.pos 9) 100),
      (0b1_0010000_000000000000000000000000#32, [], .sbUsbServeIn),
      (0b1_0010001_000000000000000000000000#32, [], .sbUsbStatusSummary),
      (0b1_0010010_000000000000000000000000#32, [], .sbSnapshotSave),
      (0b1_0010011_000000000000000000000000#32, [.snapshot foreign], .sbSnapshotRestore foreign),
      (0b1_0010100_000000000000000000000000#32, [], .sbPowerState)] : List (Word32 × List Operand × Instr)).all
      (fun p => decodesTo p.1 p.2.1 p.2.2) = true := by decide

/-- 30_encoding.md R71, 43_sideband.md R193: the six battery levels. -/
theorem test_decode_battery_levels :
    [0, 1, 2, 3, 4, 5].map (fun n => decodesTo 0x86000000#32 [.nat n]
      (.sbSetBatteryLevel ([.level0, .level1, .level2, .level3, .level4].getD n .discharged))) =
      [true, true, true, true, true, true] := by decide

/-- spec/95_test_vectors.md V-BUS-12: each of the bits `Z`. -/
theorem test_refuse_reserved_port_bits :
    [0x04000000#32, 0x08000000#32, 0x10000000#32, 0x20000000#32, 0x40000000#32].all
      (fun w => refusedAs w [] .reservedPortBits) = true := by decide

/-- spec/95_test_vectors.md V-BUS-13: bits 23:0 of an SB word. -/
theorem test_refuse_reserved_side_band_bits :
    [0x80000001#32, 0x81000001#32, 0x91800000#32].all (fun w => refusedAs w [] .reservedSideBandBits) = true := by decide

/-- spec/95_test_vectors.md V-BUS-14: `OP` 0x15, and the ends of the reserved numbers. -/
theorem test_refuse_reserved_side_band_op :
    [0x80000000#32, 0x95000000#32, 0xFF000000#32].all (fun w => refusedAs w [] .reservedSideBandOp) = true := by decide

/-- spec/95_test_vectors.md V-SB-6. -/
theorem test_refuse_battery_level_6 : refusedAs 0x86000000#32 [.nat 6] .reservedBatteryLevel = true := by decide

/-- spec/95_test_vectors.md V-USB-14 (0x10000 is no `u16`), and other operand lists of the wrong types. -/
theorem test_refuse_mistyped_operands :
    refusedAs 0x8D000000#32 [.u32 0x10000#32] .mistypedOperands = true ∧
    refusedAs 0x81000000#32 [.nat 0] .mistypedOperands = true ∧
    refusedAs 0x84000000#32 [] .mistypedOperands = true ∧
    refusedAs 0x8F000000#32 [.nat 1, .ptr .null] .mistypedOperands = true := by decide

/-- 30_encoding.md R73, R74: lines assemble to the words spec/95_test_vectors.md E1, V-CTRL-6 and P4 write out. -/
theorem test_assemble_lines :
    asmWr 0x0006#16 0xA5#8 = ⟨0x010006A5#32, []⟩ ∧ asmRd 0x3100#16 = ⟨0x00310000#32, []⟩ ∧
    asmPoke 0x0001#16 0x13#8 = ⟨0x03000113#32, []⟩ ∧ asmPeek 0x0F01#16 = ⟨0x020F0100#32, []⟩ := by decide

/-! ### One step each: the ControlDevice -/

/-- spec/95_test_vectors.md V-CTRL-1 to V-CTRL-4: the trigger bit is bit 4, and the byte is stored in any case. -/
theorem test_reset_trigger :
    [(0x10#8, 1), (0x30#8, 1), (0x20#8, 0), (0xFF#8, 1)].all (fun p =>
      runs State.reset (portWord true true 0x0000#16 p.1) [] (fun t =>
        decide (t.out.events = List.replicate p.2 .resetRequest ∧ t.ctrl.ports.read 0x00 = p.1))) = true := by decide

/-- spec/95_test_vectors.md V-CTRL-5, on a debugger that opens on a reset. -/
theorem test_reset_trigger_opens_debugger :
    ∃ t, step (busy.enqueue ⟨0x01008010#32, []⟩) = .next t ∧
      t.out.events = [.resetRequest, .debugOpen Config.dbgReasonReset 0x0080#16] ∧ t.ctrl.ports.read 0x00 = 0x10#8 :=
  ⟨_, rfl, rfl, rfl⟩

/-- spec/95_test_vectors.md V-BUS-6: a POKE of the trigger only stores. -/
theorem test_reset_trigger_poked :
    runs State.reset 0x03000010#32 [] (fun t => decide (t.out = ⟨[], .none⟩ ∧ t.ctrl.ports.read 0x00 = 0x10#8)) = true := by
  decide

/-- 41_control.md R99. -/
theorem test_reset_read : answers (withCtrl { CtrlState.coldInit with ports := [(0x00, 0x30#8)] }) 0x00000000#32 0x30#8 = true := by
  decide

/-- spec/95_test_vectors.md V-CTRL-6 to V-CTRL-8. -/
theorem test_speed_write :
    [(0x010001FF#32, 0x13#5, 48000000), (0x01000104#32, 0x00#5, 6000000), (0x03000111#32, 0x11#5, 12000000)].all (fun p =>
      runs State.reset p.1 [] (fun t =>
        decide (t.out.events = [.setClock p.2.2] ∧ t.ctrl.cpuSpeedCode = p.2.1 ∧ t.ctrl.ports.read 0x01 = 0x00#8))) = true := by
  decide

/-- spec/95_test_vectors.md E3, P4 line 5: the mirrors of offset 0x01. -/
theorem test_speed_read :
    [0x00000100#32, 0x00008100#32, 0x000F8100#32, 0x020F0100#32].all (fun w =>
      answers (withCtrl { CtrlState.coldInit with cpuSpeedCode := 0x02#5 }) w 0x02#8) = true := by decide

/-- spec/95_test_vectors.md V-CTRL-9: the write is stored, the read is of the battery state. -/
theorem test_battery_status_write :
    runs busy 0x01000255#32 [] (fun t =>
      decide (t.ctrl.ports.read 0x02 = 0x55#8 ∧ t.ctrl.batteryReadState = 0x05#8)) = true := by decide
theorem test_battery_status_read :
    answers (withCtrl { CtrlState.coldInit with ports := [(0x02, 0x55#8)], batteryReadState := 0x0B#8 })
      0x00000200#32 0x0B#8 = true := by decide

/-- spec/95_test_vectors.md V-CTRL-37. -/
theorem test_device_type_write :
    runs State.reset 0x01000355#32 [] (fun t => decide (t.ctrl.ports.read 0x03 = 0x55#8 ∧ t.out = ⟨[], .none⟩)) = true := by
  decide
theorem test_device_type_read :
    ∃ t, step ((withCtrl { CtrlState.coldInit with ports := [(0x03, 0x55#8)] }).enqueue ⟨0x00000300#32, []⟩) = .next t ∧
      t.out = ⟨[], .byte Config.deviceType⟩ := ⟨_, rfl, rfl⟩

/-- spec/95_test_vectors.md E4 line 1, V-CTRL-10, V-CTRL-11. -/
theorem test_power_mode_write :
    [(0x01000790#32, 0x90#8, 0x01#8), (0x01000710#32, 0x10#8, 0x01#8), (0x01000701#32, 0x01#8, 0x00#8)].all (fun p =>
      runs (withCtrl { CtrlState.coldInit with batteryReadState := 0x05#8 }) p.1 [] (fun t =>
        decide (t.ctrl.batteryReadState = p.2.2 ∧ t.ctrl.ports.read 0x07 = p.2.1))) = true := by decide
theorem test_power_mode_read : answers busy 0x00000700#32 0x90#8 = true := by decide

/-- spec/95_test_vectors.md E4 lines 2 to 6 and its collapse, V-CTRL-12 to V-CTRL-17: state, level, value, next state. -/
theorem test_handshake_write :
    ([(0x01#8, .level4, 0x03#8, 0x03#8), (0x03#8, .level4, 0x83#8, 0x05#8), (0x05#8, .level4, 0x03#8, 0x07#8),
      (0x07#8, .level4, 0x83#8, 0x09#8), (0x09#8, .level4, 0x03#8, 0x0B#8), (0x01#8, .level0, 0x03#8, 0x03#8),
      (0x03#8, .level0, 0x83#8, 0x00#8), (0x03#8, .level4, 0x03#8, 0x00#8), (0x0B#8, .level4, 0x83#8, 0x00#8),
      (0x00#8, .level4, 0x03#8, 0x00#8), (0x05#8, .level1, 0x03#8, 0x00#8), (0x07#8, .level2, 0x83#8, 0x00#8),
      (0x09#8, .level2, 0x03#8, 0x0B#8), (0x09#8, .level3, 0x03#8, 0x00#8), (0x09#8, .discharged, 0x03#8, 0x0B#8)] :
      List (Byte × BatteryLevel × Byte × Byte)).all (fun p =>
      runs (withCtrl { CtrlState.coldInit with batteryReadState := p.1, batterySetLevel := p.2.1 })
        (portWord true true 0x0009#16 p.2.2.1) [] (fun t =>
        decide (t.ctrl.batteryReadState = p.2.2.2 ∧ t.ctrl.ports.read 0x09 = p.2.2.1))) = true := by decide

/-- 41_control.md R108, its last sentence on a state that is not of the table, and R102 on the same state (log 13). -/
theorem test_handshake_unlisted_state :
    runs (withCtrl crooked) 0x01000903#32 [] (fun t => decide (t.ctrl.batteryReadState = 0x00#8)) = true ∧
    answers (withCtrl crooked) 0x00000200#32 0x02#8 = true := by decide

/-- spec/95_test_vectors.md V-CTRL-18: a read is of the stored byte and does not step the machine. -/
theorem test_handshake_read :
    runs (withCtrl { CtrlState.coldInit with ports := [(0x09, 0x03#8)], batteryReadState := 0x03#8 }) 0x02000900#32 []
      (fun t => decide (t.out = ⟨[], .byte 0x03#8⟩ ∧ t.ctrl.batteryReadState = 0x03#8)) = true := by decide

/-- spec/95_test_vectors.md V-CTRL-19, V-CTRL-20. -/
theorem test_charge_read :
    answers (withCtrl { CtrlState.coldInit with batteryCharging := true }) 0x00000A00#32 0x02#8 = true ∧
    answers (withCtrl { CtrlState.coldInit with ports := [(0x0A, 0x01#8)], batteryCharging := true })
      0x00000A00#32 0x03#8 = true := by decide
theorem test_charge_write :
    runs busy 0x01000A01#32 [] (fun t => decide (t.ctrl.ports.read 0x0A = 0x01#8 ∧ t.ctrl.batteryCharging = true)) = true := by
  decide

/-- spec/95_test_vectors.md V-CTRL-21 to V-CTRL-23. -/
theorem test_shutdown_write :
    [(0x01000CD4#32, [Event.resetRequest], true), (0x01000CD5#32, [], false), (0x03000CD4#32, [], true)].all (fun p =>
      runs State.reset p.1 [] (fun t =>
        decide (t.out.events = p.2.1 ∧ t.ctrl.poweredOff = p.2.2 ∧ t.ctrl.ports.read 0x0C = 0xD5#8))) = true := by decide
theorem test_shutdown_read : answers (withCtrl { CtrlState.coldInit with ports := [(0x0C, 0xD5#8)] }) 0x00000C00#32 0xD5#8 = true := by
  decide

/-- spec/95_test_vectors.md V-CTRL-24 to V-CTRL-26, V-BUS-1. -/
theorem test_usb_mirror_read :
    answers State.reset 0x00000F00#32 0x02#8 = true ∧ answers State.reset 0x000F8F00#32 0x02#8 = true ∧
    answers (withRegs [(0x144, 0x01#8)]) 0x00000F00#32 0x03#8 = true ∧
    answers ((withRegs [(0x144, 0x01#8)]).setCtrl (CtrlState.coldInit.setPort 0x0F 0x00#8)) 0x00000F00#32 0x01#8 = true := by
  decide
theorem test_usb_mirror_write :
    runs State.reset 0x01000F00#32 [] (fun t => decide (t.ctrl.ports.read 0x0F = 0x00#8 ∧ t.ctrl.ports = [])) = true := by decide

/-- spec/95_test_vectors.md V-CTRL-27, V-CTRL-29, P2 line 21: the range registers, a byte at a time. -/
theorem test_range_reads :
    [(0x00001D00#32, 0x11#8), (0x00001E00#32, 0x22#8), (0x00001F00#32, 0x33#8), (0x00002000#32, 0x7C#8),
     (0x00002100#32, 0x88#8), (0x00002200#32, 0xD1#8), (0x00002300#32, 0x44#8), (0x00002400#32, 0x55#8),
     (0x00002500#32, 0x66#8), (0x00003A00#32, 0x77#8), (0x00003B00#32, 0x99#8), (0x00003C00#32, 0xAA#8)].all (fun p =>
      answers (withCtrl { CtrlState.coldInit with
        privilegedBoundary := 0x332211#24, protectedEnd := 0x665544#24, stackLimit := 0xAA9977#24 }) p.1 p.2) = true := by
  decide

/-- spec/95_test_vectors.md V-CTRL-28, V-CTRL-30, V-CTRL-31 and P2: a byte write keeps the other two. -/
theorem test_range_writes :
    [(0x01001D00#32, 0xFFFF00#24, 0xD1887C#24, 0xD1887C#24, 0x000000#24),
     (0x01001E01#32, 0xFF01FF#24, 0xD1887C#24, 0xD1887C#24, 0x000000#24),
     (0x01001F00#32, 0x00FFFF#24, 0xD1887C#24, 0xD1887C#24, 0x000000#24),
     (0x01002000#32, 0xFFFFFF#24, 0xD18800#24, 0xD1887C#24, 0x000000#24),
     (0x01002102#32, 0xFFFFFF#24, 0xD1027C#24, 0xD1887C#24, 0x000000#24),
     (0x01002200#32, 0xFFFFFF#24, 0x00887C#24, 0xD1887C#24, 0x000000#24),
     (0x01002300#32, 0xFFFFFF#24, 0xD1887C#24, 0xD18800#24, 0x000000#24),
     (0x01002403#32, 0xFFFFFF#24, 0xD1887C#24, 0xD1037C#24, 0x000000#24),
     (0x01002500#32, 0xFFFFFF#24, 0xD1887C#24, 0x00887C#24, 0x000000#24),
     (0x01003A12#32, 0xFFFFFF#24, 0xD1887C#24, 0xD1887C#24, 0x000012#24),
     (0x01003B34#32, 0xFFFFFF#24, 0xD1887C#24, 0xD1887C#24, 0x003400#24),
     (0x01003C56#32, 0xFFFFFF#24, 0xD1887C#24, 0xD1887C#24, 0x560000#24)].all (fun p =>
      runs State.reset p.1 [] (fun t =>
        decide (t.ctrl.privilegedBoundary = p.2.1 ∧ t.ctrl.protectedStart = p.2.2.1 ∧ t.ctrl.protectedEnd = p.2.2.2.1 ∧
          t.ctrl.stackLimit = p.2.2.2.2 ∧ t.ctrl.ports = CtrlState.coldInit.ports))) = true := by decide

/-- spec/95_test_vectors.md V-CTRL-32, V-CTRL-33. -/
theorem test_misc_read :
    answers State.reset 0x00002800#32 0x08#8 = true ∧
    answers (withCtrl { CtrlState.coldInit with ports := [(0x28, 0x01#8)] }) 0x00002800#32 0x09#8 = true := by decide
theorem test_misc_write : runs State.reset 0x01002801#32 [] (fun t => decide (t.ctrl.ports.read 0x28 = 0x01#8)) = true := by decide

/-- spec/95_test_vectors.md V-CTRL-34, V-CTRL-36. -/
theorem test_protection_status_read : answers busy 0x00003D00#32 0x07#8 = true := by decide
theorem test_protection_status_write :
    runs busy 0x01003DFF#32 [] (fun t => decide (t.ctrl.protectionStatus = 0x07#8 ∧ t.ctrl.ports.read 0x3D = 0xFF#8)) = true := by
  decide

/-- spec/95_test_vectors.md V-CTRL-35. -/
theorem test_acknowledge_write :
    runs busy 0x01003E05#32 [] (fun t => decide (t.ctrl.protectionStatus = 0x02#8 ∧ t.ctrl.ports = busy.ctrl.ports)) = true := by
  decide
theorem test_acknowledge_read : answers busy 0x00003E00#32 0x00#8 = true := by decide

/-- spec/95_test_vectors.md E1, V-CTRL-38. -/
theorem test_ctrl_raw_write :
    runs State.reset 0x010006A5#32 [] (fun t => decide (t.ctrl.ports.read 0x06 = 0xA5#8 ∧ t.out = ⟨[], .none⟩)) = true := by decide
theorem test_ctrl_raw_read : answers busy 0x00008600#32 0xA5#8 = true := by decide

/-! ### One step each: the debugger, the ranges, the faults -/

/-- spec/95_test_vectors.md V-BUS-7: a frozen write changes nothing but opens the debugger first. -/
theorem test_frozen_write :
    ∃ t, step (busy.enqueue ⟨0x01000103#32, []⟩) = .next t ∧
      t.out = ⟨[.debugOpen Config.dbgReasonPortWrite 0x0001#16], .none⟩ ∧ t.ctrl = busy.ctrl := ⟨_, rfl, rfl, rfl⟩

/-- spec/95_test_vectors.md V-BUS-8: the map is by full address. -/
theorem test_freeze_is_by_address :
    runs (State.reset.setDbg ⟨true, false, [], [], [0x0001#16]⟩) 0x01008103#32 [] (fun t =>
      decide (t.out = ⟨[.setClock 48000000], .none⟩ ∧ t.ctrl.cpuSpeedCode = 0x03#5)) = true := by decide

/-- spec/95_test_vectors.md V-BUS-9 to V-BUS-11. -/
theorem test_watched_read :
    ∃ t, step (busy.enqueue ⟨0x00000200#32, []⟩) = .next t ∧
      t.out = ⟨[.debugOpen Config.dbgReasonPortRead 0x0002#16], .byte 0x05#8⟩ := ⟨_, rfl, rfl⟩
theorem test_watch_is_silent :
    answers busy 0x02000200#32 0x05#8 = true ∧
    answers (State.reset.setDbg ⟨false, false, [0x0002#16], [], []⟩) 0x00000200#32 0x00#8 = true := by decide

/-- spec/95_test_vectors.md V-BUS-3: the byte is a free value. -/
theorem test_ext_read :
    ∃ t, step (State.reset.enqueue ⟨0x00500400#32, []⟩) = .next t ∧
      t.out.events = [.extRead 0x5#4 (0x004#12 &&& Config.mirrorOpen 0x5#4) true] ∧
      t.out.result = .byte (Config.freeByte 0) ∧ t.ctrl = State.reset.ctrl := ⟨_, rfl, rfl, rfl, rfl⟩

/-- spec/95_test_vectors.md V-BUS-4. -/
theorem test_ext_write :
    ∃ t, step (State.reset.enqueue ⟨0x03500401#32, []⟩) = .next t ∧
      t.out = ⟨[.extWrite 0x5#4 (0x004#12 &&& Config.mirrorOpen 0x5#4) 0x01#8 false], .none⟩ ∧ t.draws = 0 :=
  ⟨_, rfl, rfl, rfl⟩

/-- spec/95_test_vectors.md V-BUS-5, V-SB-9: before cold init. -/
theorem test_use_before_init :
    step (cold.enqueue ⟨0x00000000#32, []⟩) = .fault .useBeforeInit ∧
    step (cold.enqueue ⟨0x87000000#32, [.bool true]⟩) = .fault .useBeforeInit := ⟨rfl, rfl⟩

/-- 40_dispatcher.md R85: an unbound range, on a read and on a write. -/
theorem test_unbound_range :
    step (unbound5.enqueue ⟨0x00500400#32, []⟩) = .fault (.unboundRange 0x5#4) ∧
    step (unbound5.enqueue ⟨0x03500401#32, []⟩) = .fault (.unboundRange 0x5#4) := ⟨rfl, rfl⟩

/-- 30_encoding.md R75, spec/95_test_vectors.md V-BUS-12. -/
theorem test_refused_step : step (State.reset.enqueue ⟨0x04000000#32, []⟩) = .refused (.reserved .reservedPortBits) := rfl

/-- With no operation waiting the block idles (log 1). -/
theorem test_idle_step : step busy = .next busy := rfl

/-! ### One step each: the USBDeviceController -/

/-- spec/95_test_vectors.md V-USB-1, V-USB-2, E3, V-USB-29, and the lanes: reads of stored bytes. -/
theorem test_usb_stored_reads :
    [(0x00301400#32, 0x14#8), (0x003E1400#32, 0x14#8), (0x00301900#32, 0x19#8), (0x00308600#32, 0x86#8),
     (0x00308B00#32, 0x8B#8), (0x0030C400#32, 0xC4#8), (0x00312000#32, 0x20#8), (0x00313100#32, 0x31#8),
     (0x00313600#32, 0x36#8), (0x00313B00#32, 0x3B#8), (0x00313C00#32, 0x3C#8), (0x00314400#32, 0x44#8),
     (0x00314B00#32, 0x4B#8), (0x00314D00#32, 0x4D#8), (0x00310000#32, 0x5A#8), (0x003F0000#32, 0x5A#8)].all (fun p =>
      answers (withRegs
        [(0x014, 0x14#8), (0x019, 0x19#8), (0x086, 0x86#8), (0x08B, 0x8B#8), (0x0C4, 0xC4#8), (0x100, 0x5A#8),
         (0x120, 0x20#8), (0x131, 0x31#8), (0x136, 0x36#8), (0x13B, 0x3B#8), (0x13C, 0x3C#8), (0x144, 0x44#8),
         (0x14B, 0x4B#8), (0x14D, 0x4D#8)]) p.1 p.2) = true := by decide

/-- spec/95_test_vectors.md V-USB-3, V-USB-5, V-USB-7 to V-USB-11, V-USB-13: GISR and DIGR of the register bytes. -/
theorem test_usb_derived_reads :
    ([([(0x014, 0x21#8), (0x018, 0x01#8)], 0x04#8, 0x00#8), ([(0x085, 0x01#8), (0x089, 0x01#8)], 0x02#8, 0x00#8),
      ([(0x144, 0x08#8)], 0x01#8, 0x01#8), ([(0x134, 0x08#8), (0x144, 0x08#8)], 0x00#8, 0x00#8),
      ([(0x130, 0x01#8), (0x144, 0x08#8)], 0x00#8, 0x01#8), ([(0x0C4, 0x01#8), (0x144, 0x08#8)], 0x01#8, 0x01#8),
      ([(0x14B, 0x80#8)], 0x01#8, 0x02#8), ([(0x14D, 0x01#8)], 0x01#8, 0x04#8)] : List (Memory × Byte × Byte)).all (fun p =>
      answers (withRegs p.1) 0x0030C000#32 p.2.1 && answers (withRegs p.1) 0x00314000#32 p.2.2 &&
        answers (withRegs p.1) 0x0030C100#32 0x00#8 && answers (withRegs p.1) 0x00314300#32 0x00#8) = true := by decide

/-- spec/95_test_vectors.md E2, V-USB-20, V-USB-21: cursor, word, answer, cursor after. -/
theorem test_cx_port_read :
    [(0, 0x0031D000#32, 0x80#8, 1), (0, 0x0231D000#32, 0x80#8, 0), (1, 0x0031D100#32, 0x06#8, 2), (2, 0x0231D300#32, 0x00#8, 2),
     (7, 0x0031D000#32, 0x00#8, 8), (6, 0x0031D000#32, 0x40#8, 7), (8, 0x0031D000#32, 0x00#8, 8)].all (fun p =>
      runs (withUsb { UsbState.cleared with ep0Buffer := setupBytes packet, ep0Index := p.1 }) p.2.1 [] (fun t =>
        decide (t.out = ⟨[], .byte p.2.2.1⟩ ∧ t.usb.ep0Index = p.2.2.2))) = true := by decide

/-- spec/95_test_vectors.md V-USB-3, V-USB-5, V-USB-8 to V-USB-10, E1: plain stores, with no event. -/
theorem test_usb_stores :
    [(0x01301801#32, 0x018, 0x01#8), (0x01308901#32, 0x089, 0x01#8), (0x0130C401#32, 0x0C4, 0x01#8),
     (0x01313001#32, 0x130, 0x01#8), (0x01313408#32, 0x134, 0x08#8), (0x01313B80#32, 0x13B, 0x80#8),
     (0x01313D01#32, 0x13D, 0x01#8), (0x0131005A#32, 0x100, 0x5A#8), (0x013121FF#32, 0x121, 0xFF#8)].all (fun p =>
      runs State.reset p.1 [] (fun t =>
        decide (t.usb.regs = [(p.2.1, p.2.2)] ∧ t.out = ⟨[], .none⟩))) = true := by decide

/-- spec/95_test_vectors.md V-USB-4, V-USB-6 (write one to clear), V-USB-12, V-USB-17, P3 line 10 (write zero to clear). -/
theorem test_usb_status_clears :
    ([([(0x014, 0x21#8)], 0x01301401#32, 0x014, 0x20#8), ([(0x085, 0x01#8)], 0x01308501#32, 0x085, 0x00#8),
      ([(0x144, 0x09#8)], 0x013144F7#32, 0x144, 0x01#8), ([(0x144, 0x01#8)], 0x013144FE#32, 0x144, 0x00#8),
      ([(0x14B, 0x80#8)], 0x01314B7F#32, 0x14B, 0x00#8), ([(0x14D, 0x03#8)], 0x01314DFE#32, 0x14D, 0x02#8)] :
      List (Memory × Word32 × Nat × Byte)).all (fun p =>
      runs (withRegs p.1) p.2.1 [] (fun t => decide (t.usb.regs.read p.2.2.1 = p.2.2.2 ∧ t.out = ⟨[], .none⟩))) = true := by
  decide

/-- spec/95_test_vectors.md V-USB-15, V-USB-22, and 42_usb.md R165: ignored writes. -/
theorem test_usb_ignored_writes :
    [0x0130C0FF#32, 0x0131D012#32, 0x013140FF#32].all (fun w =>
      runs busy w [] (fun t => decide (t = { busy with out := ⟨[], .none⟩ }))) = true := by decide

/-- spec/95_test_vectors.md V-USB-16, V-USB-27. -/
theorem test_dcfesr_write :
    runs State.reset 0x01312005#32 [] (fun t => decide (t.usb.regs.read 0x120 = 0x04#8 ∧ t.usb.transferState = .idle)) = true ∧
    runs busy 0x01312001#32 [] (fun t =>
      decide (t.usb.transferState = .idle ∧ t.usb.pendingLength = 0 ∧ t.usb.pendingBuffer = .null ∧
        t.usb.regs = busy.usb.regs)) = true := by decide

/-- spec/95_test_vectors.md V-USB-2, V-USB-5, V-USB-7, V-USB-11, V-USB-13. -/
theorem test_usb_interrupt_entries :
    ([(0x89000000#32, .u8 0x21#8, [(0x014, 0x21#8), (0x089, 0x01#8)], .usbNotify .host false),
      (0x8A000000#32, .u32 0x00000100#32, [(0x085, 0x01#8), (0x089, 0x01#8)], .usbNotify .otg true),
      (0x8B000000#32, .u8 0x08#8, [(0x089, 0x01#8), (0x144, 0x08#8)], .usbNotify .grp0 true),
      (0x8C000000#32, .u32 0x80000000#32, [(0x089, 0x01#8), (0x14B, 0x80#8)], .usbNotify .grp1 true),
      (0x8D000000#32, .u16 0x0100#16, [(0x089, 0x01#8), (0x14D, 0x01#8)], .usbNotify .grp2 true)] :
      List (Word32 × Operand × Memory × Event)).all (fun p =>
      runs (withRegs [(0x089, 0x01#8)]) p.1 [p.2.1] (fun t =>
        decide (t.usb.regs = p.2.2.1 ∧ t.out = ⟨[p.2.2.2], .none⟩))) = true := by decide

/-- spec/95_test_vectors.md V-USB-18, V-USB-19, V-USB-26. -/
theorem test_usb_setup :
    runs State.reset 0x8E000000#32 [.bytes [1#8, 2#8, 3#8]] (fun t => decide (t = { State.reset with out := ⟨[], .none⟩ })) = true ∧
    runs busy 0x8E000000#32 [.bytes [0#8, 1#8, 2#8, 3#8, 4#8, 5#8, 6#8, 7#8, 8#8, 9#8]] (fun t =>
      decide (t.usb.ep0Buffer.toList = [0#8, 1#8, 2#8, 3#8, 4#8, 5#8, 6#8, 7#8] ∧ t.usb.ep0Index = 0 ∧
        t.usb.transferState = .setupReceived ∧ t.usb.pendingLength = 0 ∧ t.out = ⟨[.usbNotify .grp0 true], .none⟩)) = true := by
  decide

/-- spec/95_test_vectors.md V-USB-23, P3 line 11. -/
theorem test_usb_queue_send :
    runs State.reset 0x8F000000#32 [.ptr (.pos 9), .nat 0] (fun t => decide (t.usb.transferState = .statusStage)) = true ∧
    runs State.reset 0x8F000000#32 [.ptr (.pos 9), .nat 100] (fun t =>
      decide (t.usb.transferState = .dataStage ∧ t.usb.pendingLength = 100 ∧ t.usb.pendingBuffer = .pos 9)) = true := by decide

/-- spec/95_test_vectors.md P3 lines 12 and 13: chunk size, what is left, where the view stands. -/
theorem test_usb_serve_in :
    [(100, 64, 36, TransferState.dataStage, 1064), (36, 36, 0, .statusStage, 1036), (64, 64, 0, .statusStage, 1064)].all (fun p =>
      runs (withUsb { busy.usb with pendingLength := p.1 }) 0x90000000#32 [] (fun t =>
        (match t.out.result with | .bytes l => l.length == p.2.1 | _ => false) &&
        decide (t.usb.pendingLength = p.2.2.1 ∧ t.usb.transferState = p.2.2.2.1 ∧
          t.usb.pendingBuffer = .pos p.2.2.2.2))) = true := by decide

/-- 42_usb.md R185: the bytes served stand at the position before it advances. -/
theorem test_usb_serve_in_bytes :
    ∃ t, step ((withUsb { busy.usb with pendingLength := 2 }).enqueue ⟨0x90000000#32, []⟩) = .next t ∧
      t.out.result = .bytes [Config.hostByte 0 (.pos 1000) 0, Config.hostByte 0 (.pos 1000) 1] := ⟨_, rfl, rfl⟩

/-- spec/95_test_vectors.md V-USB-25. -/
theorem test_usb_serve_in_idle :
    runs State.reset 0x90000000#32 [] (fun t => decide (t = { State.reset with out := ⟨[], .bytes []⟩ })) = true := by decide

/-- spec/95_test_vectors.md V-USB-10, P3 line 16. -/
theorem test_usb_status_summary :
    runs (withRegs [(0x0C4, 0x01#8), (0x144, 0x08#8)]) 0x91000000#32 [] (fun t => decide (t.out = ⟨[], .byte 0x00#8⟩)) = true ∧
    runs busy 0x91000000#32 [] (fun t => decide (t.out = ⟨[], .byte 0x01#8⟩)) = true := by decide

/-- spec/95_test_vectors.md V-USB-28. -/
theorem test_usb_reset :
    runs busy 0x83000000#32 [] (fun t =>
      decide (t.usb = UsbState.cleared ∧ t.ctrl = busy.ctrl ∧ t.out = ⟨[], .none⟩)) = true := by decide

/-! ### One step each: the environment -/

/-- spec/95_test_vectors.md V-SB-1, V-SB-4. -/
theorem test_cold_init :
    runs cold 0x81000000#32 [] (fun t => decide (t = State.reset)) = true ∧
    runs (withCtrl { busy.ctrl with poweredOff := true }) 0x81000000#32 [] (fun t => decide (t = State.reset)) = true := by decide

/-- spec/95_test_vectors.md V-SB-2, V-SB-3. -/
theorem test_global_reset :
    runs (withCtrl { busy.ctrl with batterySetLevel := .level2 }) 0x82000000#32 [] (fun t =>
      decide (t.ctrl.cpuSpeedCode = 0#5 ∧ t.ctrl.batteryReadState = 0x00#8 ∧ t.ctrl.batterySetLevel = .level2 ∧
        t.ctrl.batteryCharging = true ∧ t.ctrl.ports = [(0x0F, 0x02#8)] ∧ t.out = ⟨[.setClock 6000000], .none⟩)) = true ∧
    runs (withCtrl { CtrlState.coldInit with ports := [(0x0C, 0xD5#8), (0x0F, 0x02#8)], poweredOff := true }) 0x82000000#32 []
      (fun t => decide (t.ctrl.poweredOff = true ∧ t.ctrl.ports = [(0x0C, 0x01#8), (0x0F, 0x02#8)])) = true := by decide

/-- spec/95_test_vectors.md E6, E7, V-CTRL-39, V-CTRL-40: start, end, program counter, answer, with the boundary 0x100. -/
theorem test_privilege_check :
    [(0x200#24, 0x300#24, 0x150#24, true), (0x200#24, 0x300#24, 0x350#24, true), (0x200#24, 0x300#24, 0x250#24, false),
     (0x200#24, 0x300#24, 0x050#24, false), (0x300#24, 0x200#24, 0x250#24, true), (0x300#24, 0x200#24, 0x100#24, false),
     (0x200#24, 0x300#24, 0x100#24, false), (0x200#24, 0x300#24, 0x101#24, true), (0x200#24, 0x300#24, 0x200#24, false),
     (0x200#24, 0x300#24, 0x300#24, false), (0x200#24, 0x300#24, 0x301#24, true), (0x200#24, 0x300#24, 0xFFFFFF#24, true)].all
      (fun p => runs (withCtrl { CtrlState.coldInit with
        privilegedBoundary := 0x100#24, protectedStart := p.1, protectedEnd := p.2.1, stackLimit := 0x180#24 })
        0x84000000#32 [.u24 p.2.2.1] (fun t => decide (t.out = ⟨[], .bool p.2.2.2⟩))) = true := by decide
theorem test_privilege_check_after_reset :
    runs State.reset 0x84000000#32 [.u24 0xFFFFFF#24] (fun t => decide (t.out = ⟨[], .bool false⟩)) = true := by decide

/-- spec/95_test_vectors.md V-SB-5. -/
theorem test_latch_violation :
    runs (withCtrl { CtrlState.coldInit with protectionStatus := 0x01#8 }) 0x85000000#32 [.u8 0x04#8] (fun t =>
      decide (t.ctrl.protectionStatus = 0x05#8)) = true := by decide

/-- 43_sideband.md R193 to R195. -/
theorem test_environment_inputs :
    runs State.reset 0x86000000#32 [.nat 2] (fun t => decide (t.ctrl.batterySetLevel = .level2)) = true ∧
    runs State.reset 0x87000000#32 [.bool true] (fun t => decide (t.ctrl.batteryCharging = true)) = true ∧
    runs State.reset 0x88000000#32 [.debugConfig watching] (fun t => decide (t.dbg = watching)) = true := by decide

/-- spec/95_test_vectors.md P5 line 3. -/
theorem test_snapshot_save :
    runs busy 0x92000000#32 [] (fun t => decide (t.out = ⟨[], .snapshot ⟨.thisSpec, busy.ctrl, busy.usb⟩⟩)) = true := by decide

/-- spec/95_test_vectors.md P5 line 6, V-SB-8. -/
theorem test_snapshot_restore :
    runs State.reset 0x93000000#32 [.snapshot ⟨.thisSpec, busy.ctrl, busy.usb⟩] (fun t =>
      decide (t.ctrl = busy.ctrl ∧ t.usb = busy.usb ∧ t.out = ⟨[], .none⟩)) = true := by decide

/-- 43_sideband.md R197: a record built by hand is restored as given, the invariants of 10_state.md R44 broken or not. -/
theorem test_snapshot_restore_by_hand :
    runs State.reset 0x93000000#32 [.snapshot ⟨.thisSpec, crooked, { busy.usb with ep0Index := 9, pendingLength := 0 }⟩] (fun t =>
      decide (t.ctrl.batteryReadState = 0x02#8 ∧ t.ctrl.cpuSpeedCode = 0x0C#5 ∧ t.usb.ep0Index = 9 ∧
        t.usb.transferState = .dataStage ∧ t.usb.pendingLength = 0)) = true := by decide

/-- spec/95_test_vectors.md V-SB-7. -/
theorem test_snapshot_restore_refused :
    step (State.reset.enqueue ⟨0x93000000#32, [.snapshot foreign]⟩) = .refused .incompatibleSnapshot := rfl

/-- spec/95_test_vectors.md V-SB-3. -/
theorem test_power_state :
    runs (withCtrl { CtrlState.coldInit with poweredOff := true }) 0x94000000#32 [] (fun t =>
      decide (t.out = ⟨[], .bool true⟩)) = true := by decide

/-- The fetch of a placed table word (log 2): SPEED with every free bit set runs as the first operation. -/
theorem test_fetch_word :
    ∃ t, step (State.reset.withFetchWord 32 0x010F81FF) = .next t ∧ t.ctrl.cpuSpeedCode = 0x13#5 := ⟨_, rfl, rfl⟩

/-! ### Witnesses: states and operands that meet the hypotheses of the obligations -/

/-- A busy block with a restore and a write waiting. -/
def loaded : State :=
  { busy with inputs := [⟨0x93000000#32, [.snapshot ⟨.thisSpec, busy.ctrl, busy.usb⟩]⟩, ⟨0x010006FF#32, []⟩] }

theorem test_witness_ready : busy.Ready := ⟨rfl, by decide⟩

theorem test_witness_canonical : Memory.wf 256 busy.ctrl.ports = true ∧ Memory.wf 512 busy.usb.regs = true := by decide

/-- The waiting restore of `loaded` is the one record of it. -/
theorem loaded_queued {P : CtrlState → Prop} {Q : UsbState → Prop} (h : P busy.ctrl ∧ Q busy.usb) : loaded.Queued P Q := by
  intro t ht snap hs _
  simp only [loaded, List.mem_cons, List.not_mem_nil, or_false] at ht
  rcases ht with rfl | rfl
  · simp only [List.mem_singleton, Operand.snapshot.injEq] at hs
    subst hs
    exact h
  · simp at hs

theorem busy_ctrl_inv : busy.ctrl.Inv := ⟨by decide, by decide, by decide⟩

theorem busy_usb_inv : busy.usb.Inv :=
  ⟨by decide, by decide, by decide, fun a h1 h2 => by interval_cases a <;> rfl, fun a h1 h2 => by interval_cases a <;> rfl⟩

theorem busy_ctrl_storage : busy.ctrl.Storage :=
  ⟨by decide, by decide, fun a ha => by
    have h1 : a ≠ 0x06 := by omega
    have h2 : a ≠ 0x07 := by omega
    have h3 : a ≠ 0x0F := by omega
    simp [busy, Memory.read, h1, h2, h3]; rfl⟩

theorem busy_usb_storage : busy.usb.Storage :=
  ⟨by decide, fun a h1 h2 => by interval_cases a <;> rfl, fun a h1 h2 => by interval_cases a <;> rfl,
   fun a h1 h2 => by interval_cases a <;> rfl, by decide⟩

theorem busy_usb_pending : busy.usb.PendingInDataStage := by unfold UsbState.PendingInDataStage; decide

theorem test_witness_DecodeAndEncodeAgree :
    Instr.wf (.ctrlRawW true 0x1F#5 0x7F#7 0xFF#8) = true ∧ Instr.wf (.usbRawW true 0x7#3 0x1FF#9 0xFF#8) = true ∧
    Instr.wf (.extR true 0xF#4 0xFFF#12) = true ∧ Instr.wf (.sbSetDebugConfig watching) = true ∧
    Instr.wf (.sbSnapshotRestore ⟨.thisSpec, busy.ctrl, busy.usb⟩) = true ∧ Instr.wf (.sbSnapshotRestore foreign) = true ∧
    decode ⟨0x01007FFF#32, []⟩ = .ok (.ctrlRawW true 0#5 0x7F#7 0xFF#8) := ⟨rfl, rfl, rfl, rfl, rfl, rfl, rfl⟩

theorem test_witness_DecodeIsFirstTableRow :
    decode ⟨0x94000000#32, []⟩ = .ok .sbPowerState ∧
    (0x03FFFFFF#32).getLsbD 31 = false ∧ (0x03FFFFFF#32).extractLsb' 26 5 = 0#5 ∧
    decode (portTransaction true true 0x0001#16 0xFF#8) = .ok (.ctrlSpeedW true 0#5 0xFF#8) ∧
    decode (portTransaction false true 0x0001#16 0xFF#8) = .ok (.ctrlSpeedW false 0#5 0xFF#8) :=
  ⟨rfl, rfl, rfl, rfl, rfl⟩

theorem test_witness_ReservedEncodingsRefused :
    ((0x04000000#32).getLsbD 31 = false ∧ (0x04000000#32).extractLsb' 26 5 ≠ 0#5) ∧
    ((0x7C000000#32).getLsbD 31 = false ∧ (0x7C000000#32).extractLsb' 26 5 ≠ 0#5) ∧
    ((0x03FFFFFF#32).getLsbD 31 = false ∧ (0x03FFFFFF#32).extractLsb' 26 5 = 0#5) ∧
    ((0x80000000#32).getLsbD 31 = true ∧ (0x80000000#32).extractLsb' 24 7 = 0x00#7) ∧
    ((0x95000000#32).getLsbD 31 = true ∧ 0x15 ≤ ((0x95000000#32).extractLsb' 24 7).toNat) ∧
    ((0x81000001#32).getLsbD 31 = true ∧ (0x81000001#32).extractLsb' 0 24 ≠ 0#24) ∧
    6 ≤ 6 ∧ [Operand.u8 1#8].map operandType ≠ sbTypes .usbGrp2Int := by decide

theorem test_witness_StepRunsDecodedOperation :
    (loaded.inputs = ⟨0x93000000#32, [.snapshot ⟨.thisSpec, busy.ctrl, busy.usb⟩]⟩ :: [⟨0x010006FF#32, []⟩] ∧
      decode ⟨0x93000000#32, [.snapshot ⟨.thisSpec, busy.ctrl, busy.usb⟩]⟩ =
        .ok (.sbSnapshotRestore ⟨.thisSpec, busy.ctrl, busy.usb⟩)) ∧
    decode ⟨0x86000000#32, [.nat 6]⟩ = .error .reservedBatteryLevel ∧ busy.inputs = [] ∧
    decodeTableWord 32 0x94000000 = some .sbPowerState ∧
    decodeTableWord 32 0x01000110 = some (.ctrlSpeedW true 0#5 0x10#8) := ⟨⟨rfl, rfl⟩, rfl, rfl, rfl, rfl⟩

theorem test_witness_MirroringLaw :
    (rangeOf 0x0001#16 = rangeOf 0x0F81#16 ∧
      0x0001#16 &&& (mirror (rangeOf 0x0001#16)).setWidth 16 = 0x0F81#16 &&& (mirror (rangeOf 0x0001#16)).setWidth 16) ∧
    (rangeOf 0x3014#16 = rangeOf 0x3E14#16 ∧
      0x3014#16 &&& (mirror (rangeOf 0x3014#16)).setWidth 16 = 0x3E14#16 &&& (mirror (rangeOf 0x3014#16)).setWidth 16) ∧
    frozen true 0x0006#16 busy.dbg = frozen true 0x0F86#16 busy.dbg ∧
    frozen true 0x0001#16 busy.dbg = frozen true 0x0001#16 busy.dbg := ⟨⟨rfl, rfl⟩, ⟨rfl, rfl⟩, rfl, rfl⟩

theorem test_witness_PeekIsPure : busy.Ready := test_witness_ready

theorem test_witness_PokeWritesLikeWrite : busy.Ready ∧ frozen true 0x0007#16 busy.dbg = false := ⟨test_witness_ready, rfl⟩

/-- A control address, a USB register, the first and the last byte of the data port, an external range. -/
theorem test_witness_ReadHasNoOtherEffect :
    busy.Ready ∧ rangeOf 0x0002#16 = 0x0#4 ∧ rangeOf 0x3014#16 = 0x3#4 ∧
    ¬(rangeOf 0x3014#16 = 0x3#4 ∧ (0x3014#16).extractLsb' 2 7 = 0b1110100#7) ∧
    ¬(rangeOf 0x31D4#16 = 0x3#4 ∧ (0x31D4#16).extractLsb' 2 7 = 0b1110100#7) ∧
    (rangeOf 0x31D0#16 = 0x3#4 ∧ (0x31D0#16).extractLsb' 2 7 = 0b1110100#7) ∧
    (rangeOf 0x3FD3#16 = 0x3#4 ∧ (0x3FD3#16).extractLsb' 2 7 = 0b1110100#7) ∧ ¬(rangeOf 0x5004#16 = 0x3#4) :=
  ⟨test_witness_ready, by decide⟩

theorem test_witness_FrozenWriteHasNoEffect :
    busy.initialised = true ∧ busy.dbg.attached = true ∧ 0x0001#16 ∈ busy.dbg.freeze := by decide

theorem test_witness_AccessEventOrder :
    (∃ t, step (busy.enqueue (asmWr 0x0001#16 0xFF#8)) = .next t) ∧ ∃ t, step (busy.enqueue (asmRd 0x0002#16)) = .next t :=
  ⟨⟨_, rfl⟩, ⟨_, rfl⟩⟩

theorem test_witness_DetachedDebuggerIsSilent :
    (busy.setDbg ⟨false, true, [0x0002#16], [0x0001#16], [0x0001#16]⟩).dbg.attached = false ∧
    ∃ t, step ((busy.setDbg ⟨false, true, [0x0002#16], [0x0001#16], [0x0001#16]⟩).enqueue
      (portTransaction true true 0x0001#16 0xFF#8)) = .next t := ⟨rfl, _, rfl⟩

theorem test_witness_RawPassThrough :
    (busy.Ready ∧ Memory.wf 256 busy.ctrl.ports = true ∧ ctrlRegAt 0x7F#7 = none ∧
      frozen true (ctrlAddr 0x7F#7 0#5) busy.dbg = false) ∧
    (Memory.wf 512 busy.usb.regs = true ∧ usbRegAt 0x1FF#9 = none ∧ frozen true (usbAddr 0x1FF#9 0#3) busy.dbg = false) ∧
    (∃ t, exec (.ctrlRawW true 0#5 0x06#7 0xFF#8) busy = .next t ∧
      t.ctrl.ports.read (0x06#7).toNat ≠ busy.ctrl.ports.read (0x06#7).toNat) ∧
    (∃ t, exec .sbUsbReset busy = .next t ∧ t.usb.regs.read (0x100#9).toNat ≠ busy.usb.regs.read (0x100#9).toNat) :=
  ⟨⟨test_witness_ready, rfl, rfl, rfl⟩, ⟨rfl, rfl, rfl⟩, ⟨_, rfl, by decide⟩, ⟨_, rfl, by decide⟩⟩

theorem test_witness_UninitialisedBlockFaults :
    cold.initialised = false ∧ Instr.sbGlobalReset ≠ .sbColdInit ∧ ∃ t, exec .sbColdInit cold = .next t :=
  ⟨rfl, by decide, _, rfl⟩

theorem test_witness_UnboundRangeFaults :
    unbound5.initialised = true ∧ unbound5.handler (rangeOf 0x5FFF#16) = .unbound ∧
    frozen true 0x5FFF#16 unbound5.dbg = false := by decide

theorem test_witness_ReadyBlockCompletes :
    busy.Ready ∧ decode ⟨0x93000000#32, [.snapshot zeroSnapshot]⟩ = .ok (.sbSnapshotRestore zeroSnapshot) ∧
    zeroSnapshot.layout = .thisSpec := ⟨test_witness_ready, rfl, rfl⟩

theorem test_witness_AccessTouchesOneDevice :
    (∃ t, step (busy.enqueue (portTransaction true true 0x3144#16 0x00#8)) = .next t) ∧ rangeOf 0x3144#16 ≠ 0x0#4 ∧
    (∃ t, step (busy.enqueue (portTransaction true true 0x0006#16 0x00#8)) = .next t) ∧ rangeOf 0x0006#16 ≠ 0x3#4 :=
  ⟨⟨_, rfl⟩, by decide, ⟨_, rfl⟩, by decide⟩

theorem test_witness_ExternalAccessForwards :
    busy.Ready ∧ 0xF#4 ≠ 0x0#4 ∧ 0x1#4 ≠ 0x3#4 ∧ frozen true (extAddr 0xF#4 0xFFF#12) busy.dbg = false :=
  ⟨test_witness_ready, by decide⟩

theorem test_witness_ReadyBlockNeverFaults : loaded.Ready ∧ ∃ t, step loaded = .next t := ⟨⟨rfl, by decide⟩, _, rfl⟩

theorem test_witness_StepKeepsInvariants : loaded.Inv ∧ ∃ t, step loaded = .next t :=
  ⟨⟨busy_ctrl_inv, busy_usb_inv, by decide, loaded_queued ⟨busy_ctrl_inv, busy_usb_inv⟩⟩, _, rfl⟩

theorem test_witness_StepKeepsStorage : loaded.Storage ∧ ∃ t, step loaded = .next t :=
  ⟨⟨busy_ctrl_storage, busy_usb_storage, loaded_queued ⟨busy_ctrl_storage, busy_usb_storage⟩⟩, _, rfl⟩

theorem test_witness_StepKeepsPendingInDataStage : loaded.PendingInDataStage ∧ ∃ t, step loaded = .next t :=
  ⟨⟨busy_usb_pending, loaded_queued ⟨trivial, busy_usb_pending⟩⟩, _, rfl⟩

theorem test_witness_ControlStoredReads : busy.Ready ∧ ctrlRegAt 0x7F#7 = none ∧ ctrlRegAt 0x04#7 = none :=
  ⟨test_witness_ready, by decide⟩

theorem test_witness_ControlComputedReads : busy.Ready ∧ busy.ctrl.Inv := ⟨test_witness_ready, busy_ctrl_inv⟩

theorem test_witness_RangeByteReads : busy.Ready := test_witness_ready

theorem test_witness_ControlStores :
    busy.Ready ∧ Memory.wf 256 busy.ctrl.ports = true ∧
    (∀ off ∈ [0x02#7, 0x03#7, 0x0A#7, 0x0F#7, 0x28#7, 0x3D#7], frozen true (ctrlAddr off 0x1F#5) busy.dbg = false) ∧
    ctrlRegAt 0x7F#7 = none ∧ frozen true (ctrlAddr 0x7F#7 0x1F#5) busy.dbg = false := ⟨test_witness_ready, by decide⟩

theorem test_witness_RangeByteWrites :
    busy.Ready ∧ ∀ off ∈ [0x1D#7, 0x1E#7, 0x1F#7, 0x20#7, 0x21#7, 0x22#7, 0x23#7, 0x24#7, 0x25#7, 0x3A#7, 0x3B#7, 0x3C#7],
      frozen true (ctrlAddr off 0x00#5) busy.dbg = false := ⟨test_witness_ready, by decide⟩

theorem test_witness_ResetTriggerWrite :
    busy.Ready ∧ Memory.wf 256 busy.ctrl.ports = true ∧ frozen true (ctrlAddr 0x00#7 0#5) busy.dbg = false :=
  ⟨test_witness_ready, by decide⟩

theorem test_witness_SpeedWrite : busy.Ready ∧ frozen true (ctrlAddr 0x01#7 1#5) busy.dbg = false :=
  ⟨test_witness_ready, by decide⟩

theorem test_witness_PowerModeWrite :
    busy.Ready ∧ Memory.wf 256 busy.ctrl.ports = true ∧ frozen true (ctrlAddr 0x07#7 0#5) busy.dbg = false :=
  ⟨test_witness_ready, by decide⟩

theorem test_witness_HandshakeWrite :
    (busy.Ready ∧ Memory.wf 256 busy.ctrl.ports = true ∧ frozen true (ctrlAddr 0x09#7 0#5) busy.dbg = false) ∧
    (withCtrl crooked).Ready ∧ Memory.wf 256 (withCtrl crooked).ctrl.ports = true ∧
    frozen true (ctrlAddr 0x09#7 0#5) (withCtrl crooked).dbg = false := ⟨⟨test_witness_ready, by decide⟩, ⟨rfl, by decide⟩, by decide⟩

theorem test_witness_ShutdownWrite :
    busy.Ready ∧ Memory.wf 256 busy.ctrl.ports = true ∧ frozen true (ctrlAddr 0x0C#7 0#5) busy.dbg = false ∧
    0xD4#8 = 0xD4#8 ∧ 0xD5#8 ≠ 0xD4#8 := ⟨test_witness_ready, by decide⟩

theorem test_witness_AcknowledgeWrite : busy.Ready ∧ frozen true (ctrlAddr 0x3E#7 0#5) busy.dbg = false :=
  ⟨test_witness_ready, by decide⟩

theorem test_witness_ResetRequestCauses :
    (∃ t, exec (.ctrlResetW true 0#5 0x10#8) busy = .next t ∧ Event.resetRequest ∈ t.out.events) ∧
    (∃ t, exec (.ctrlShutdownW true 0#5 0xD4#8) busy = .next t ∧ Event.resetRequest ∈ t.out.events) ∧
    ∃ t, exec (.ctrlResetW true 0#5 0xEF#8) busy = .next t := ⟨⟨_, rfl, by decide⟩, ⟨_, rfl, by decide⟩, ⟨_, rfl⟩⟩

theorem test_witness_ClockRateAgrees :
    (∃ t, exec (.ctrlSpeedW false 0#5 0x01#8) busy = .next t ∧ Event.setClock 12000000 ∈ t.out.events ∧
      clockRateOf t.ctrl.cpuSpeedCode ≠ clockRateOf busy.ctrl.cpuSpeedCode) ∧
    ∀ snap, Instr.ctrlSpeedW false 0#5 0x01#8 ≠ .sbSnapshotRestore snap :=
  ⟨⟨_, rfl, by decide, by decide⟩, fun _ h => by cases h⟩

theorem test_witness_OffMarkChanges :
    (∃ t, exec (.ctrlShutdownW true 0#5 0xD4#8) busy = .next t ∧ busy.ctrl.poweredOff = false ∧ t.ctrl.poweredOff = true) ∧
    (∃ t, exec .sbColdInit (withCtrl { busy.ctrl with poweredOff := true }) = .next t ∧ t.ctrl.poweredOff = false) :=
  ⟨⟨_, rfl, rfl, rfl⟩, ⟨_, rfl, rfl⟩⟩

theorem test_witness_UsbStoredReads : busy.Ready ∧ busy.usb.Inv ∧ 1#2 ≠ 0#2 ∧ 3#2 ≠ 0#2 ∧ 2 ≤ (2#2).toNat ∧ 2 ≤ (3#2).toNat :=
  ⟨test_witness_ready, busy_usb_inv, by decide⟩

theorem test_witness_UsbDerivedReads : busy.Ready := test_witness_ready
theorem test_witness_CxPortRead : busy.Ready ∧ busy.usb.ep0Index < 8 := ⟨test_witness_ready, by decide⟩

theorem test_witness_UsbRawAccess :
    busy.Ready ∧ usbRegAt 0x000#9 = none ∧ usbRegAt 0x1FF#9 = none ∧ Memory.wf 512 busy.usb.regs = true ∧
    frozen true (usbAddr 0x1FF#9 7#3) busy.dbg = false := ⟨test_witness_ready, by decide⟩

theorem test_witness_UsbStores :
    busy.Ready ∧ Memory.wf 512 busy.usb.regs = true ∧
    ∀ b ∈ [0x018#9, 0x088#9, 0x0C4#9, 0x130#9, 0x134#9, 0x138#9, 0x13C#9],
      frozen true (Stated.laneAddr b 3#2 7#3) busy.dbg = false := ⟨test_witness_ready, by decide⟩

theorem test_witness_UsbStatusClears :
    busy.Ready ∧ Memory.wf 512 busy.usb.regs = true ∧
    ∀ b ∈ [0x014#9, 0x084#9, 0x144#9, 0x148#9, 0x14C#9], frozen true (Stated.laneAddr b 3#2 7#3) busy.dbg = false :=
  ⟨test_witness_ready, by decide⟩

theorem test_witness_UsbIgnoredWrites : busy.Ready := test_witness_ready

theorem test_witness_DcfesrWrite :
    busy.Ready ∧ Memory.wf 512 busy.usb.regs = true ∧ frozen true (Stated.laneAddr 0x120#9 0#2 0#3) busy.dbg = false ∧
    1#2 ≠ 0#2 ∧ 3#2 ≠ 0#2 ∧ frozen true (Stated.laneAddr 0x120#9 3#2 0#3) busy.dbg = false := ⟨test_witness_ready, by decide⟩

theorem test_witness_UsbInterruptEntries :
    busy.initialised = true ∧ Memory.wf 512 busy.usb.regs = true ∧ cold.initialised = false := by decide

theorem test_witness_SetupPacket :
    busy.initialised = true ∧ Memory.wf 512 busy.usb.regs = true ∧ (packet.take 7).length < 8 ∧ 8 ≤ packet.length ∧
    cold.initialised = false := by decide

theorem test_witness_QueueAndServe :
    busy.initialised = true ∧ busy.usb.transferState = .dataStage ∧ 0 < busy.usb.pendingLength ∧
    busy.usb.pendingBuffer = .pos 1000 ∧ State.reset.usb.transferState ≠ .dataStage ∧
    (withUsb { busy.usb with pendingLength := 0 }).usb.pendingLength = 0 ∧ cold.initialised = false := by decide

theorem test_witness_TransferStateChanges :
    (∃ t, exec (.sbUsbSetup packet) busy = .next t ∧ t.usb.transferState ≠ busy.usb.transferState) ∧
    (∃ t, exec (.sbUsbQueueSend .null 1) State.reset = .next t ∧ t.usb.transferState ≠ State.reset.usb.transferState) ∧
    (∃ t, exec (.sbUsbQueueSend .null 0) busy = .next t ∧ t.usb.transferState ≠ busy.usb.transferState) ∧
    (∃ t, exec .sbUsbServeIn (withUsb { busy.usb with pendingLength := 64 }) = .next t ∧ t.usb.transferState ≠ .dataStage) ∧
    (∃ t, exec (.usbDcfesrW true 0#3 0#2 0x01#8) busy = .next t ∧ t.usb.transferState ≠ busy.usb.transferState) ∧
    ∃ t, exec .sbGlobalReset busy = .next t ∧ t.usb.transferState ≠ busy.usb.transferState :=
  ⟨⟨_, rfl, by decide⟩, ⟨_, rfl, by decide⟩, ⟨_, rfl, by decide⟩, ⟨_, rfl, by decide⟩, ⟨_, rfl, by decide⟩, _, rfl, by decide⟩

theorem test_witness_GlobalReset : busy.initialised = true ∧ cold.initialised = false := by decide
theorem test_witness_UsbReset : busy.initialised = true ∧ cold.initialised = false := by decide
theorem test_witness_EnvironmentInputs : busy.initialised = true ∧ cold.initialised = false := by decide
theorem test_witness_EnvironmentQueries : busy.initialised = true ∧ cold.initialised = false := by decide

theorem test_witness_PrivilegeCheck :
    (withCtrl { CtrlState.coldInit with protectedStart := 0x300#24, protectedEnd := 0x2FF#24 }).initialised = true ∧
    (0x2FF#24).toNat < (0x300#24).toNat ∧ cold.initialised = false := by decide

theorem test_witness_SnapshotRestore :
    busy.initialised = true ∧ zeroSnapshot.layout = .thisSpec ∧ foreign.layout ≠ .thisSpec ∧ cold.initialised = false := by decide

theorem test_witness_SnapshotRoundTrip :
    loaded.initialised = true ∧ ∃ t w, exec .sbSnapshotSave loaded = .next t ∧
      Host.Core.run Sys2Proof.core 2 t = .next w ∧ w.ctrl ≠ loaded.ctrl := ⟨rfl, _, _, rfl, rfl, by decide⟩

end Sys2Proof.Tests
end

section
/-! PROOFS. The family 00_scope: what a transaction decodes to is well formed (30_encoding.md R67, R70, R72), and a step runs
the operation its transaction decodes to (00_scope.md R3). -/

namespace Sys2Proof.Machine

/-! ### Decoded operations are well formed -/

/-- Every named control register's row is well formed at every operand. -/
theorem wf_ctrlReadInstr (obs : Bool) (al : BitVec 5) (r : CtrlReg) : (ctrlReadInstr obs al r).wf = true := by
  cases r <;> rfl

theorem wf_ctrlWriteInstr (obs : Bool) (al : BitVec 5) (v : Byte) (r : CtrlReg) :
    (ctrlWriteInstr obs al v r).wf = true := by
  cases r <;> rfl

/-- Every named USB register's row is well formed at every operand. -/
theorem wf_usbReadInstr (obs : Bool) (al : BitVec 3) (lane : BitVec 2) (r : UsbReg) :
    (usbReadInstr obs al lane r).wf = true := by
  cases r <;> rfl

theorem wf_usbWriteInstr (obs : Bool) (al : BitVec 3) (lane : BitVec 2) (v : Byte) (r : UsbReg) :
    (usbWriteInstr obs al lane v r).wf = true := by
  cases r <;> rfl

/-- A control access reaches a RAW row only at an offset no named row takes (30_encoding.md R67). -/
theorem wf_decodeCtrl (obs wr : Bool) (al : BitVec 5) (off : BitVec 7) (v : Byte) :
    (decodeCtrl obs wr al off v).wf = true := by
  unfold decodeCtrl
  cases h : ctrlRegAt off with
  | some r => cases wr <;> simp [wf_ctrlReadInstr, wf_ctrlWriteInstr]
  | none => cases wr <;> simp [Instr.wf, h]

/-- A USB access reaches a RAW row only at an offset no named row takes (30_encoding.md R67). -/
theorem wf_decodeUsb (obs wr : Bool) (al : BitVec 3) (off : BitVec 9) (v : Byte) :
    (decodeUsb obs wr al off v).wf = true := by
  unfold decodeUsb
  cases h : usbRegAt off with
  | some r => cases wr <;> simp [wf_usbReadInstr, wf_usbWriteInstr]
  | none => cases wr <;> simp [Instr.wf, h]

/-- An access to a range of neither device is well formed (30_encoding.md R70). -/
theorem wf_decodeExt (obs wr : Bool) {k : RangeNo} (l : Offset) (v : Byte) (h0 : k ≠ Config.ctrlRange)
    (h3 : k ≠ Config.usbRange) : (decodeExt obs wr k l v).wf = true := by
  cases wr <;> simp [decodeExt, Instr.wf, h0, h3]

/-- The operation of any access is well formed, one case for each kind of range. -/
theorem wf_decodeAccess (obs wr : Bool) (a : Addr) (v : Byte) : (decodeAccess obs wr a v).wf = true := by
  by_cases h0 : rangeOf a = 0x0#4
  · rw [decodeAccess_ctrl h0]; exact wf_decodeCtrl ..
  · by_cases h3 : rangeOf a = 0x3#4
    · rw [decodeAccess_usb h3]; exact wf_decodeUsb ..
    · rw [decodeAccess_ext h0 h3]; exact wf_decodeExt _ _ _ _ h0 h3

/-- A side-band operation's operands are typed values, each well formed at every value, or a structured operand that the
decoder takes in canonical form only (30_encoding.md R71, R72): one case for each operand form. -/
theorem wf_of_decodeSb {p : SbOp} {l : List Operand} {i : Instr} (h : decodeSb p l = .ok i) : i.wf = true := by
  cases p with
  | coldInit | globalReset | usbReset | usbServeIn | usbStatusSummary | snapshotSave | powerState =>
    obtain ⟨-, rfl⟩ := takeNone_some (wellTyped_ok h); rfl
  | latchViolation | usbHostInt | usbGrp0Int => obtain ⟨v, -, rfl⟩ := takeU8_some (wellTyped_ok h); rfl
  | usbGrp2Int => obtain ⟨v, -, rfl⟩ := takeU16_some (wellTyped_ok h); rfl
  | privCheck => obtain ⟨v, -, rfl⟩ := takeU24_some (wellTyped_ok h); rfl
  | usbOtgInt | usbGrp1Int => obtain ⟨v, -, rfl⟩ := takeU32_some (wellTyped_ok h); rfl
  | setBatteryLevel => obtain ⟨n, level, -, -, rfl⟩ := decodeLevel_ok h; rfl
  | setCharging => obtain ⟨b, -, rfl⟩ := takeBool_some (wellTyped_ok h); rfl
  | usbSetup => obtain ⟨bytes, -, rfl⟩ := takeBytes_some (wellTyped_ok h); rfl
  | usbQueueSend => obtain ⟨buf, len, -, rfl⟩ := takeView_some (wellTyped_ok h); rfl
  | setDebugConfig => obtain ⟨cfg, -, hw, rfl⟩ := takeDebugConfig_some (wellTyped_ok h); exact hw
  | snapshotRestore => obtain ⟨snap, -, hw, rfl⟩ := takeSnapshot_some (wellTyped_ok h); exact hw

/-- Everything a transaction that decodes can be: a PORT word with `Z = 0`, or an SB word of a known operation with that
operation's operands (30_encoding.md R63 to R65, R72). -/
theorem decode_ok {t : Transaction} {i : Instr} (h : decode t = .ok i) :
    (t.word.getLsbD 31 = false ∧ t.word.extractLsb' 26 5 = 0#5 ∧ i = decodePort t.word) ∨
    (t.word.getLsbD 31 = true ∧ t.word.extractLsb' 0 24 = 0#24 ∧
      ∃ p, sbOpAt (t.word.extractLsb' 24 7) = some p ∧ decodeSb p t.operands = .ok i) := by
  unfold decode at h
  split_ifs at h with hsb hz hz
  · cases hp : sbOpAt (t.word.extractLsb' 24 7) with
    | none => rw [hp] at h; cases h
    | some p => rw [hp] at h; exact .inr ⟨hsb, hz, p, rfl, h⟩
  · cases h; exact .inl ⟨Bool.eq_false_of_not_eq_true hsb, hz, rfl⟩

/-- Whatever decodes is well formed. -/
theorem wf_of_decode {t : Transaction} {i : Instr} (h : decode t = .ok i) : i.wf = true := by
  obtain ⟨-, -, rfl⟩ | ⟨-, -, p, -, hp⟩ := decode_ok h
  · exact wf_decodeAccess ..
  · exact wf_of_decodeSb hp

/-! ### The step of a table word -/

/-- A table word's operation is what the decoder reads from the word's transaction. -/
theorem decodeTableWord_eq_some {n w : Nat} {i : Instr} (h : decodeTableWord n w = some i) :
    decode (tableTransaction n w) = .ok i := by
  unfold decodeTableWord at h
  split at h
  · cases h; assumption
  · cases h

/-- A step with a table word placed for the fetch is the word's operation, the operations that waited before still waiting. -/
theorem step_withFetchWord {n w : Nat} {i : Instr} (s : State) (h : decodeTableWord n w = some i) :
    step (s.withFetchWord n w) = exec i s :=
  step_cons rfl (decodeTableWord_eq_some h)

/-- Settles O5, from what a step does with a waiting transaction that decodes, with one that does not, and with none, and
from the well-formedness of whatever decodes. -/
theorem stepRunsDecodedOperation : Obligations.StepRunsDecodedOperation := by
  unfold Obligations.StepRunsDecodedOperation
  refine ⟨fun s t rest i hs hd => ⟨?wf, ?runs⟩, fun s t rest e hs hd => ?refuses, fun s hs => ?idles, fun s w i h => ?fetched⟩
  case wf => exact wf_of_decode hd
  case runs => exact step_cons hs hd
  case refuses => exact step_refused hs hd
  case idles => exact step_nil hs
  case fetched => exact step_withFetchWord s h

end Sys2Proof.Machine
end

section
/-! PROOFS. The family 10_state, first part: everything an operation that completes can do to the state, said once
(00_scope.md R11), and when an operation completes at all (10_state.md R19, 40_dispatcher.md R86). -/

namespace Sys2Proof.Machine

/-! ### Before cold init -/

theorem portRead_uninitialised {obs : Bool} {a : Addr} {dev : Offset → State → ReadAnswer} {s : State}
    (hs : s.initialised = false) : portRead obs a dev s = .fault .useBeforeInit := by simp [portRead, hs]

theorem portWrite_uninitialised {obs : Bool} {a : Addr} {dev : Offset → State → WriteAnswer} {s : State}
    (hs : s.initialised = false) : portWrite obs a dev s = .fault .useBeforeInit := by simp [portWrite, hs]

theorem sideBand_uninitialised {run : State → SideAnswer} {s : State} (hs : s.initialised = false) :
    sideBand run s = .fault .useBeforeInit := by simp [sideBand, hs]

/-- A restore of a record of this spec's layout copies both devices' records (43_sideband.md R197). -/
theorem restore_thisSpec {snap : Snapshot} {s : State} (hs : s.initialised = true) (hl : snap.layout = .thisSpec) :
    exec (.sbSnapshotRestore snap) s = .next (((s.setCtrl snap.ctrl).setUsb snap.usb).finish [] .none) := by
  show execSbSnapshotRestore snap s = _
  rw [execSbSnapshotRestore, hs, hl]
  exact sideBand_eq_next hs

theorem restore_other {snap : Snapshot} {s : State} {tag : Nat} (hs : s.initialised = true) (hl : snap.layout = .other tag) :
    exec (.sbSnapshotRestore snap) s = .refused .incompatibleSnapshot := by
  show execSbSnapshotRestore snap s = _
  rw [execSbSnapshotRestore, hs, hl]

theorem restore_uninitialised {snap : Snapshot} {s : State} (hs : s.initialised = false) :
    exec (.sbSnapshotRestore snap) s = .fault .useBeforeInit := by
  show execSbSnapshotRestore snap s = _
  rw [execSbSnapshotRestore, hs]

/-- If a restore answers a next state, the record has this spec's layout and is what stands in the state after. -/
theorem restore_next {snap : Snapshot} {s t : State} (h : exec (.sbSnapshotRestore snap) s = .next t) :
    snap.layout = .thisSpec ∧ t = ((s.setCtrl snap.ctrl).setUsb snap.usb).finish [] .none := by
  cases hs : s.initialised with
  | false => rw [restore_uninitialised hs] at h; cases h
  | true =>
    cases hl : snap.layout with
    | other tag => rw [restore_other hs hl] at h; cases h
    | thisSpec => rw [restore_thisSpec hs hl] at h; exact ⟨rfl, by injection h with h; exact h.symm⟩

/-- An operation is a read or a write of the access routine, a side-band operation, cold init or a restore: the shared routines,
where the initialisation check stands, are the same for every row. -/
theorem exec_routine (i : Instr) :
    (∃ obs a dev, ∀ s, exec i s = portRead obs a dev s) ∨ (∃ obs a dev, ∀ s, exec i s = portWrite obs a dev s) ∨
    (∃ run, ∀ s, exec i s = sideBand run s) ∨ i = .sbColdInit ∨ ∃ snap, i = .sbSnapshotRestore snap := by
  cases i with
  | sbColdInit => exact .inr (.inr (.inr (.inl rfl)))
  | sbSnapshotRestore snap => exact .inr (.inr (.inr (.inr ⟨snap, rfl⟩)))
  | sbGlobalReset | sbUsbReset | sbPrivCheck | sbLatchViolation | sbSetBatteryLevel | sbSetCharging | sbSetDebugConfig
  | sbUsbHostInt | sbUsbOtgInt | sbUsbGrp0Int | sbUsbGrp1Int | sbUsbGrp2Int | sbUsbSetup | sbUsbQueueSend | sbUsbServeIn
  | sbUsbStatusSummary | sbSnapshotSave | sbPowerState => exact .inr (.inr (.inl ⟨_, fun _ => rfl⟩))
  | ctrlResetR | ctrlSpeedR | ctrlBattStatusR | ctrlDevtypeR | ctrlPowerModeR | ctrlBattHsR | ctrlChargeR | ctrlShutdownR
  | ctrlUsbMirrorR | ctrlPriv0R | ctrlPriv1R | ctrlPriv2R | ctrlPstart0R | ctrlPstart1R | ctrlPstart2R | ctrlPend0R
  | ctrlPend1R | ctrlPend2R | ctrlMiscR | ctrlStack0R | ctrlStack1R | ctrlStack2R | ctrlPstatusR | ctrlPackR | ctrlRawR
  | usbUsbstsR | usbUsbintrR | usbOtgisrR | usbOtgierR | usbGisrR | usbGmirR | usbDcfesrR | usbDmigrR | usbDmisg0R
  | usbDmisg1R | usbDmisg2R | usbDigrR | usbDisg0R | usbDisg1R | usbDisg2R | usbCxportR | usbRawR | extR =>
    exact .inl ⟨_, _, _, fun _ => rfl⟩
  | _ => exact .inr (.inl ⟨_, _, _, fun _ => rfl⟩)

/-- Before cold init every operation but cold init faults, by the check of the routine it runs through. -/
theorem exec_uninitialised {i : Instr} {s : State} (hs : s.initialised = false) (hi : i ≠ .sbColdInit) :
    exec i s = .fault .useBeforeInit := by
  obtain ⟨obs, a, dev, h⟩ | ⟨obs, a, dev, h⟩ | ⟨run, h⟩ | h | ⟨snap, rfl⟩ := exec_routine i
  · rw [h, portRead_uninitialised hs]
  · rw [h, portWrite_uninitialised hs]
  · rw [h, sideBand_uninitialised hs]
  · exact absurd h hi
  · exact restore_uninitialised hs

/-! ### Events that set no clock rate -/

/-- No event of the list sets the clock rate. -/
def Clockless (l : List Event) : Prop := ∀ r, Event.setClock r ∉ l

theorem clockless_nil : Clockless [] := fun _ => List.not_mem_nil

theorem Clockless.append {l m : List Event} (hl : Clockless l) (hm : Clockless m) : Clockless (l ++ m) := fun r h =>
  (List.mem_append.mp h).elim (hl r) (hm r)

theorem clockless_readWatch (obs : Bool) (a : Addr) (d : DebugConfig) : Clockless (readWatch obs a d) := by
  intro r; unfold readWatch; split <;> simp

theorem clockless_writeWatch (obs : Bool) (a : Addr) (d : DebugConfig) : Clockless (writeWatch obs a d) := by
  intro r; unfold writeWatch; split <;> simp

theorem clockless_raiseReset (obs : Bool) (a : Addr) (d : DebugConfig) : Clockless (raiseReset obs a d) := by
  intro r; unfold raiseReset; split_ifs <;> simp

/-- Of the control writes only SPEED emits a clock rate, that of the written code (41_control.md R100). -/
theorem setClock_mem_ctrlEmitted (obs : Bool) (al : BitVec 5) (v : Byte) (r : CtrlReg) (d : DebugConfig) (q : Nat) :
    Event.setClock q ∈ ctrlEmitted obs al v r d ↔ r = .speed ∧ q = Config.clockRate (v.extractLsb' 0 2) := by
  cases r with
  | speed => simp [ctrlEmitted]
  | reset => by_cases h : v &&& Config.resetTriggerMask ≠ 0x00#8 <;> simp [ctrlEmitted, h, clockless_raiseReset _ _ _ q]
  | shutdown => by_cases h : v = Config.shutdownCode <;> simp [ctrlEmitted, h, clockless_raiseReset _ _ _ q]
  | _ => simp [ctrlEmitted]

/-! ### What an operation does -/

/-- The register bytes the five USB interrupt entry points join their bits into: the first, and how many
(42_usb.md R177 to R181). -/
def entryLanes : List (Nat × Nat) :=
  [((usbBase .usbsts).toNat, 1), ((usbBase .otgisr).toNat, 4), ((usbBase .disg0).toNat, 1), ((usbBase .disg1).toNat, 4),
   ((usbBase .disg2).toNat, 2)]

/-- Everything an operation that completes does to the state: it answers and changes no record, or it updates the record of one
device or the debugger's inputs by the rule of its row, or it is one of the resets or a restore. -/
inductive Effect : Instr → State → State → Prop
  /-- the reads, the queries, and the writes that reach neither device's record -/
  | answers {i : Instr} {s : State} {e : List Event} {r : Result} (he : Clockless e) : Effect i s (s.finish e r)
  /-- the reads that draw a free value -/
  | draws {i : Instr} {s : State} {e : List Event} {r : Result} (he : Clockless e) : Effect i s (s.drawn.finish e r)
  /-- an observable read of the endpoint-0 data port -/
  | advances {i : Instr} {s : State} {e : List Event} {r : Result} (he : Clockless e) :
      Effect i s ((s.setUsb s.usb.cxAdvance).finish e r)
  | ctrlWrite {s : State} (obs : Bool) (al : BitVec 5) (v : Byte) (r : CtrlReg) :
      Effect (ctrlWriteInstr obs al v r) s ((s.setCtrl (ctrlUpdated v r s.ctrl)).finish
        (writeWatch obs (ctrlRegAddr r al) s.dbg ++ ctrlEmitted obs al v r s.dbg) .none)
  | ctrlRawWrite {s : State} {e : List Event} (obs : Bool) (al : BitVec 5) (off : BitVec 7) (v : Byte) (he : Clockless e) :
      Effect (.ctrlRawW obs al off v) s ((s.setCtrl (s.ctrl.setPort off.toNat v)).finish e .none)
  | usbWrite {s : State} {e : List Event} (obs : Bool) (al : BitVec 3) (lane : BitVec 2) (v : Byte) (r : UsbReg)
      (he : Clockless e) : Effect (usbWriteInstr obs al lane v r) s ((s.setUsb (usbUpdated v lane r s.usb)).finish e .none)
  | usbRawWrite {s : State} {e : List Event} (obs : Bool) (al : BitVec 3) (off : BitVec 9) (v : Byte) (he : Clockless e) :
      Effect (.usbRawW obs al off v) s ((s.setUsb (s.usb.setReg off.toNat v)).finish e .none)
  | coldInit {s : State} :
      Effect .sbColdInit s ((coldInit s).finish [.setClock (Config.clockRate 0#2)] .none)
  | globalReset {s : State} :
      Effect .sbGlobalReset s (((s.setCtrl (resetCtrl s.ctrl)).setUsb UsbState.cleared).finish
        [.setClock (Config.clockRate 0#2)] .none)
  | usbReset {s : State} : Effect .sbUsbReset s ((s.setUsb UsbState.cleared).finish [] .none)
  | latchViolation {s : State} (bits : Byte) :
      Effect (.sbLatchViolation bits) s
        ((s.setCtrl (s.ctrl.setStatus (s.ctrl.protectionStatus ||| bits))).finish [] .none)
  | setBatteryLevel {s : State} (level : BatteryLevel) :
      Effect (.sbSetBatteryLevel level) s ((s.setCtrl (s.ctrl.setLevel level)).finish [] .none)
  | setCharging {s : State} (b : Bool) :
      Effect (.sbSetCharging b) s ((s.setCtrl (s.ctrl.setCharging b)).finish [] .none)
  | setDebugConfig {s : State} (cfg : DebugConfig) : Effect (.sbSetDebugConfig cfg) s ((s.setDbg cfg).finish [] .none)
  /-- the USB interrupt entry points -/
  | usbEntry {i : Instr} {s : State} {cls : UsbClass} {level : Bool} {w : Nat} (base n : Nat) (bits : BitVec w)
      (hl : (base, n) ∈ entryLanes) :
      Effect i s ((s.setUsb (s.usb.orBytes base bits n)).finish [.usbNotify cls level] .none)
  | usbSetup {s : State} {level : Bool} (bytes : List Byte) :
      Effect (.sbUsbSetup bytes) s ((s.setUsb (s.usb.loadSetup bytes)).finish [.usbNotify .grp0 level] .none)
  | usbQueueSend {s : State} (buf : HostPtr) (len : Nat) :
      Effect (.sbUsbQueueSend buf len) s
        ((s.setUsb ((s.usb.setPending buf len).setTransfer (if len = 0 then .statusStage else .dataStage))).finish [] .none)
  | usbServeIn {s : State} {r : Result} (hd : s.usb.transferState = .dataStage) :
      Effect .sbUsbServeIn s ((s.setUsb s.usb.served).drawn.finish [] r)
  | restore {s : State} (snap : Snapshot) (hl : snap.layout = .thisSpec) :
      Effect (.sbSnapshotRestore snap) s (((s.setCtrl snap.ctrl).setUsb snap.usb).finish [] .none)

/-- A read whose device answers without an event and leaves the state as it is. -/
theorem effect_of_read {i : Instr} {obs : Bool} {a : Addr} {val : Offset → State → Byte} {s t : State}
    (hi : ∀ s, exec i s = portRead obs a (fun off s => ⟨val off s, s, []⟩) s) (h : exec i s = .next t) : Effect i s t := by
  rw [hi] at h
  obtain ⟨-, -, rfl⟩ := portRead_next h
  exact .answers (clockless_readWatch _ _ _)

theorem effect_of_cursorRead {i : Instr} {obs : Bool} {a : Addr} {s t : State} (hi : ReadsCursor obs a i)
    (h : exec i s = .next t) : Effect i s t := by
  rw [hi] at h
  obtain ⟨-, -, rfl⟩ := portRead_next h
  cases obs with
  | false => exact .answers clockless_nil
  | true => exact .advances (clockless_readWatch _ _ _)

theorem effect_of_ctrlWrite {obs : Bool} {al : BitVec 5} {v : Byte} {s t : State} (r : CtrlReg)
    (h : exec (ctrlWriteInstr obs al v r) s = .next t) : Effect (ctrlWriteInstr obs al v r) s t := by
  rw [writesCtrl_named] at h
  obtain ⟨-, ⟨-, rfl⟩ | ⟨-, -, rfl⟩⟩ := portWrite_next h
  · exact .answers (clockless_writeWatch _ _ _)
  · exact .ctrlWrite obs al v r

theorem effect_of_ctrlRawWrite {obs : Bool} {al : BitVec 5} {off : BitVec 7} {v : Byte} {s t : State}
    (h : exec (.ctrlRawW obs al off v) s = .next t) : Effect (.ctrlRawW obs al off v) s t := by
  rw [writesCtrl_raw] at h
  obtain ⟨-, ⟨-, rfl⟩ | ⟨-, -, rfl⟩⟩ := portWrite_next h
  · exact .answers (clockless_writeWatch _ _ _)
  · exact .ctrlRawWrite obs al off v ((clockless_writeWatch _ _ _).append clockless_nil)

theorem effect_of_usbWrite {obs : Bool} {al : BitVec 3} {lane : BitVec 2} {v : Byte} {s t : State} (r : UsbReg)
    (h : exec (usbWriteInstr obs al lane v r) s = .next t) : Effect (usbWriteInstr obs al lane v r) s t := by
  rw [writesUsb_named] at h
  obtain ⟨-, ⟨-, rfl⟩ | ⟨-, -, rfl⟩⟩ := portWrite_next h
  · exact .answers (clockless_writeWatch _ _ _)
  · exact .usbWrite obs al lane v r ((clockless_writeWatch _ _ _).append clockless_nil)

theorem effect_of_usbRawWrite {obs : Bool} {al : BitVec 3} {off : BitVec 9} {v : Byte} {s t : State}
    (h : exec (.usbRawW obs al off v) s = .next t) : Effect (.usbRawW obs al off v) s t := by
  rw [writesUsb_raw] at h
  obtain ⟨-, ⟨-, rfl⟩ | ⟨-, -, rfl⟩⟩ := portWrite_next h
  · exact .answers (clockless_writeWatch _ _ _)
  · exact .usbRawWrite obs al off v ((clockless_writeWatch _ _ _).append clockless_nil)

theorem effect_of_extRead {i : Instr} {obs : Bool} {k : RangeNo} {l : Offset} {s t : State}
    (h : execExtR obs k l s = .next t) : Effect i s t := by
  obtain ⟨-, -, rfl⟩ := portRead_next h
  exact .draws (Clockless.append (fun r => by simp) (clockless_readWatch _ _ _))

theorem effect_of_extWrite {i : Instr} {obs : Bool} {k : RangeNo} {l : Offset} {v : Byte} {s t : State}
    (h : execExtW obs k l v s = .next t) : Effect i s t := by
  obtain ⟨-, ⟨-, rfl⟩ | ⟨-, -, rfl⟩⟩ := portWrite_next h
  · exact .answers (clockless_writeWatch _ _ _)
  · exact .answers ((clockless_writeWatch _ _ _).append (fun r => by simp))

/-- What a side-band operation that completes leaves. -/
theorem sideBand_leaves {i : Instr} {run : State → SideAnswer} {s t : State} (hi : ∀ s, exec i s = sideBand run s)
    (h : exec i s = .next t) : t = (run s).state.finish (run s).events (run s).result := by
  rw [hi] at h
  exact (sideBand_next h).2

/-- A side-band query changes nothing. -/
theorem effect_of_query {i : Instr} {f : State → Result} {s t : State} (hi : ∀ s, exec i s = sideQuery f s)
    (h : exec i s = .next t) : Effect i s t := by
  obtain rfl := sideBand_leaves hi h
  exact .answers clockless_nil

theorem effect_of_usbEntry {i : Instr} {w : Nat} {cls : UsbClass} {base n : Nat} {bits : BitVec w} {s t : State}
    (hi : ∀ s, exec i s = sideBand (fun s => usbEntry cls (s.usb.orBytes base bits n) s) s)
    (hl : (base, n) ∈ entryLanes) (h : exec i s = .next t) : Effect i s t := by
  obtain rfl := sideBand_leaves hi h
  exact .usbEntry base n bits hl

/-- A setup packet of fewer than eight bytes is ignored (42_usb.md R182). -/
theorem effect_of_usbSetup {bytes : List Byte} {s t : State} (h : exec (.sbUsbSetup bytes) s = .next t) :
    Effect (.sbUsbSetup bytes) s t := by
  obtain rfl := sideBand_leaves (fun _ => rfl) h
  by_cases hb : bytes.length < 8
  · simp only [if_pos hb]; exact .answers clockless_nil
  · simp only [if_neg hb]; exact .usbSetup bytes

/-- Serving with nothing queued answers the empty list (42_usb.md R185). -/
theorem effect_of_usbServeIn {s t : State} (h : exec .sbUsbServeIn s = .next t) : Effect .sbUsbServeIn s t := by
  obtain rfl := sideBand_leaves (fun _ => rfl) h
  by_cases hp : s.usb.transferState = .dataStage ∧ 0 < s.usb.pendingLength
  · simp only [if_pos hp]; exact .usbServeIn hp.1
  · simp only [if_neg hp]; exact .answers clockless_nil

/-- If an operation answers a next state, that state is one of its effects: one case for each row of the opcode table. -/
theorem exec_effect {i : Instr} {s t : State} (h : exec i s = .next t) : Effect i s t := by
  cases i with
  | ctrlResetR | ctrlSpeedR | ctrlBattStatusR | ctrlDevtypeR | ctrlPowerModeR | ctrlBattHsR | ctrlChargeR | ctrlShutdownR
  | ctrlUsbMirrorR | ctrlPriv0R | ctrlPriv1R | ctrlPriv2R | ctrlPstart0R | ctrlPstart1R | ctrlPstart2R | ctrlPend0R
  | ctrlPend1R | ctrlPend2R | ctrlMiscR | ctrlStack0R | ctrlStack1R | ctrlStack2R | ctrlPstatusR | ctrlPackR | ctrlRawR
  | usbUsbstsR | usbUsbintrR | usbOtgisrR | usbOtgierR | usbGisrR | usbGmirR | usbDcfesrR | usbDmigrR | usbDmisg0R
  | usbDmisg1R | usbDmisg2R | usbDigrR | usbDisg0R | usbDisg1R | usbDisg2R | usbRawR => exact effect_of_read (fun _ => rfl) h
  | usbCxportR => exact effect_of_cursorRead (fun _ => rfl) h
  | extR => exact effect_of_extRead h
  | ctrlResetW => exact effect_of_ctrlWrite .reset h
  | ctrlSpeedW => exact effect_of_ctrlWrite .speed h
  | ctrlBattStatusW => exact effect_of_ctrlWrite .battStatus h
  | ctrlDevtypeW => exact effect_of_ctrlWrite .devtype h
  | ctrlPowerModeW => exact effect_of_ctrlWrite .powerMode h
  | ctrlBattHsW => exact effect_of_ctrlWrite .battHs h
  | ctrlChargeW => exact effect_of_ctrlWrite .charge h
  | ctrlShutdownW => exact effect_of_ctrlWrite .shutdown h
  | ctrlUsbMirrorW => exact effect_of_ctrlWrite .usbMirror h
  | ctrlPriv0W => exact effect_of_ctrlWrite .priv0 h
  | ctrlPriv1W => exact effect_of_ctrlWrite .priv1 h
  | ctrlPriv2W => exact effect_of_ctrlWrite .priv2 h
  | ctrlPstart0W => exact effect_of_ctrlWrite .pstart0 h
  | ctrlPstart1W => exact effect_of_ctrlWrite .pstart1 h
  | ctrlPstart2W => exact effect_of_ctrlWrite .pstart2 h
  | ctrlPend0W => exact effect_of_ctrlWrite .pend0 h
  | ctrlPend1W => exact effect_of_ctrlWrite .pend1 h
  | ctrlPend2W => exact effect_of_ctrlWrite .pend2 h
  | ctrlMiscW => exact effect_of_ctrlWrite .misc h
  | ctrlStack0W => exact effect_of_ctrlWrite .stack0 h
  | ctrlStack1W => exact effect_of_ctrlWrite .stack1 h
  | ctrlStack2W => exact effect_of_ctrlWrite .stack2 h
  | ctrlPstatusW => exact effect_of_ctrlWrite .pstatus h
  | ctrlPackW => exact effect_of_ctrlWrite .pack h
  | ctrlRawW => exact effect_of_ctrlRawWrite h
  | usbUsbstsW => exact effect_of_usbWrite .usbsts h
  | usbUsbintrW => exact effect_of_usbWrite .usbintr h
  | usbOtgisrW => exact effect_of_usbWrite .otgisr h
  | usbOtgierW => exact effect_of_usbWrite .otgier h
  | usbGisrW => exact effect_of_usbWrite .gisr h
  | usbGmirW => exact effect_of_usbWrite .gmir h
  | usbDcfesrW => exact effect_of_usbWrite .dcfesr h
  | usbDmigrW => exact effect_of_usbWrite .dmigr h
  | usbDmisg0W => exact effect_of_usbWrite .dmisg0 h
  | usbDmisg1W => exact effect_of_usbWrite .dmisg1 h
  | usbDmisg2W => exact effect_of_usbWrite .dmisg2 h
  | usbDigrW => exact effect_of_usbWrite .digr h
  | usbDisg0W => exact effect_of_usbWrite .disg0 h
  | usbDisg1W => exact effect_of_usbWrite .disg1 h
  | usbDisg2W => exact effect_of_usbWrite .disg2 h
  | usbCxportW => exact effect_of_usbWrite .cxport h
  | usbRawW => exact effect_of_usbRawWrite h
  | extW => exact effect_of_extWrite h
  | sbColdInit => injection h with h; subst h; exact .coldInit
  | sbGlobalReset => obtain rfl := sideBand_leaves (fun _ => rfl) h; exact .globalReset
  | sbUsbReset => obtain rfl := sideBand_leaves (fun _ => rfl) h; exact .usbReset
  | sbLatchViolation bits => obtain rfl := sideBand_leaves (fun _ => rfl) h; exact .latchViolation bits
  | sbSetBatteryLevel level => obtain rfl := sideBand_leaves (fun _ => rfl) h; exact .setBatteryLevel level
  | sbSetCharging b => obtain rfl := sideBand_leaves (fun _ => rfl) h; exact .setCharging b
  | sbSetDebugConfig cfg => obtain rfl := sideBand_leaves (fun _ => rfl) h; exact .setDebugConfig cfg
  | sbUsbHostInt | sbUsbOtgInt | sbUsbGrp0Int | sbUsbGrp1Int | sbUsbGrp2Int =>
    exact effect_of_usbEntry (fun _ => rfl) (by decide) h
  | sbUsbSetup => exact effect_of_usbSetup h
  | sbUsbQueueSend buf len => obtain rfl := sideBand_leaves (fun _ => rfl) h; exact .usbQueueSend buf len
  | sbUsbServeIn => exact effect_of_usbServeIn h
  | sbPrivCheck | sbUsbStatusSummary | sbSnapshotSave | sbPowerState => exact effect_of_query (fun _ => rfl) h
  | sbSnapshotRestore snap => obtain ⟨hl, rfl⟩ := restore_next h; exact .restore snap hl

end Sys2Proof.Machine
end

section
/-! PROOFS. The family 10_state, second part: every operation keeps the invariants of the two devices' records and of the
debugger's inputs (10_state.md R44), and so does every step. -/

namespace Sys2Proof.Machine

/-! ### The ControlDevice's record -/

theorem CtrlState.Inv.setPort {c : CtrlState} (hc : c.Inv) {a : Nat} (ha : a < 256) (v : Byte) : (c.setPort a v).Inv :=
  { hc with wf := Memory.wf_write hc.wf ha v }

theorem CtrlState.Inv.storePort {c : CtrlState} (hc : c.Inv) (r : CtrlReg) (v : Byte) : (c.storePort r v).Inv :=
  hc.setPort (by omega) v

theorem CtrlState.Inv.setBattery {c : CtrlState} (hc : c.Inv) {st : Byte} (hst : st ∈ batteryStates) :
    (c.setBattery st).Inv := { hc with battery := hst }

/-- The mask of a SPEED write drops bits 2 and 3 (41_control.md R100). -/
theorem speedCodeOf_unused (v : Byte) : speedCodeOf v &&& 0b01100#5 = 0#5 := by revert v; decide

/-- Every write of a named control register keeps the invariants: the registers that move the battery machine send it to one of
its states, SPEED masks the code, and the others store one byte or write a field no invariant speaks of. -/
theorem CtrlState.Inv.updated {c : CtrlState} (hc : c.Inv) (v : Byte) (r : CtrlReg) : (ctrlUpdated v r c).Inv := by
  cases r with
  | speed => exact { hc with speed := speedCodeOf_unused v }
  | powerMode => exact (hc.storePort _ _).setBattery (powerModeState_mem v)
  | battHs => exact (hc.storePort _ _).setBattery (handshake_mem _ _ _)
  | shutdown =>
    by_cases hv : v = Config.shutdownCode
    · have hoff : (c.setOff true).Inv := { hc with }
      simpa only [ctrlUpdated, if_pos hv] using hoff.storePort .shutdown _
    · simpa only [ctrlUpdated, if_neg hv] using hc.storePort .shutdown v
  | priv0 | priv1 | priv2 | pstart0 | pstart1 | pstart2 | pend0 | pend1 | pend2 | stack0 | stack1 | stack2 | pack =>
    exact { hc with }
  | reset | battStatus | devtype | charge | usbMirror | misc | pstatus => exact hc.storePort _ v

theorem coldInit_ctrl_inv : CtrlState.coldInit.Inv := ⟨by decide, by decide, by decide⟩

/-- What a global reset makes of the ControlDevice's record (43_sideband.md R191): with the off mark, the mark and its byte. -/
theorem resetCtrl_eq (c : CtrlState) :
    resetCtrl c = if c.poweredOff then
        (((CtrlState.coldInit.setLevel c.batterySetLevel).setCharging c.batteryCharging).setOff true).storePort .shutdown
          Config.shutdownStatusBit
      else (CtrlState.coldInit.setLevel c.batterySetLevel).setCharging c.batteryCharging := rfl

theorem resetCtrl_inv (c : CtrlState) : (resetCtrl c).Inv := by
  have kept : ((CtrlState.coldInit.setLevel c.batterySetLevel).setCharging c.batteryCharging).Inv :=
    { coldInit_ctrl_inv with }
  have marked : (((CtrlState.coldInit.setLevel c.batterySetLevel).setCharging c.batteryCharging).setOff true).Inv :=
    { coldInit_ctrl_inv with }
  rw [resetCtrl_eq]
  split
  · exact marked.storePort .shutdown _
  · exact kept

/-! ### The USBDeviceController's record -/

/-- The unused bytes of the group status registers, which the invariant keeps zero (10_state.md R44). -/
def UnusedStatusByte (a : Nat) : Prop := 0x145 ≤ a ∧ a ≤ 0x147 ∨ 0x14E ≤ a ∧ a ≤ 0x14F

theorem UsbState.Inv.unused {u : UsbState} (hu : u.Inv) {a : Nat} (ha : UnusedStatusByte a) : u.regs.read a = 0#8 :=
  ha.elim (fun h => hu.disg0 a h.1 h.2) (fun h => hu.disg2 a h.1 h.2)

/-- A store inside the block keeps the invariants where it puts nothing but zero into an unused status byte. -/
theorem UsbState.Inv.setReg {u : UsbState} (hu : u.Inv) {off : Nat} {v : Byte} (hoff : off < 512)
    (hv : UnusedStatusByte off → v = 0#8) : (u.setReg off v).Inv := by
  have zero : ∀ a, UnusedStatusByte a → (u.setReg off v).regs.read a = 0#8 := by
    intro a ha
    rw [setReg_regs, Memory.read_write hu.wf]
    by_cases h : a = off
    · rw [if_pos h]; exact hv (h ▸ ha)
    · rw [if_neg h]; exact hu.unused ha
  exact { hu with
    wf := Memory.wf_write hu.wf hoff v
    disg0 := fun a h1 h2 => zero a (.inl ⟨h1, h2⟩)
    disg2 := fun a h1 h2 => zero a (.inr ⟨h1, h2⟩) }

/-- Back in Idle with nothing pending, whatever the state before. -/
theorem UsbState.Inv.cxDone {u : UsbState} (hu : u.Inv) : u.cxDone.Inv := { hu with pending := fun _ => rfl }

/-- The cursor stops after the eighth byte (42_usb.md R172). -/
theorem UsbState.Inv.cxAdvance {u : UsbState} (hu : u.Inv) : u.cxAdvance.Inv := by
  unfold UsbState.cxAdvance
  split
  case isTrue h => exact { hu with index := h }
  case isFalse => exact hu

/-- The unused status bytes are lanes of DISG0 and DISG2. -/
theorem usbLane_unused {r : UsbReg} {lane : BitVec 2} (h : UnusedStatusByte (usbLane r lane).toNat) :
    r = .disg0 ∨ r = .disg2 := by
  unfold UnusedStatusByte at h
  revert lane
  cases r <;> decide

/-- No offset outside the named registers is an unused status byte. -/
theorem usbRaw_not_unused {off : BitVec 9} (h : usbRegAt off = none) : ¬ UnusedStatusByte off.toNat := by
  have named : ∀ n, UnusedStatusByte n → (usbRegAt (BitVec.ofNat 9 n)).isSome = true := by
    rintro n (⟨h1, h2⟩ | ⟨h1, h2⟩) <;> interval_cases n <;> rfl
  intro hu
  have := named _ hu
  rw [BitVec.ofNat_toNat, BitVec.setWidth_eq, h] at this
  cases this

/-- Every write of a named USB register keeps the invariants: the write-zero-to-clear registers clear what is zero already in
their unused bytes, and no other register has such a byte. -/
theorem UsbState.Inv.updated {u : UsbState} (hu : u.Inv) (v : Byte) (lane : BitVec 2) (r : UsbReg) :
    (usbUpdated v lane r u).Inv := by
  have bound : (usbLane r lane).toNat < 512 := (usbLane r lane).isLt
  have used : r ≠ .disg0 → r ≠ .disg2 → ∀ w, (u.setReg (usbLane r lane).toNat w).Inv := fun h0 h2 w =>
    hu.setReg bound (fun h => ((usbLane_unused h).elim h0 h2).elim)
  have cleared : (u.setReg (usbLane r lane).toNat (u.regs.read (usbLane r lane).toNat &&& v)).Inv :=
    hu.setReg bound (fun h => by rw [hu.unused h, BitVec.zero_and])
  cases r with
  | disg0 | disg1 | disg2 => exact cleared
  | gisr | digr | cxport => exact hu
  | dcfesr =>
    have stored := used nofun nofun
    unfold usbUpdated
    split_ifs
    · exact (stored _).cxDone
    · exact stored _
    · exact stored _
  | usbsts | usbintr | otgisr | otgier | gmir | dmigr | dmisg0 | dmisg1 | dmisg2 => exact used nofun nofun _

/-- No entry point joins a bit into an unused status byte, or beyond the block. -/
theorem entryLanes_used : ∀ p ∈ entryLanes, ∀ k < p.2, p.1 + k < 512 ∧ ¬ UnusedStatusByte (p.1 + k) := by
  unfold UnusedStatusByte; decide

theorem UsbState.Inv.orBytes {u : UsbState} (hu : u.Inv) {w base n : Nat} (bits : BitVec w)
    (hl : ∀ k < n, base + k < 512 ∧ ¬ UnusedStatusByte (base + k)) : (u.orBytes base bits n).Inv := by
  induction n with
  | zero => exact hu
  | succ n ih =>
    obtain ⟨hlt, hused⟩ := hl n (by omega)
    exact (ih (fun k hk => hl k (by omega))).setReg hlt (fun h => absurd h hused)

/-- A setup packet drops the pending view and puts the cursor at the first byte (42_usb.md R182). -/
theorem UsbState.Inv.loadSetup {u : UsbState} (hu : u.Inv) (bytes : List Byte) : (u.loadSetup bytes).Inv := by
  have loaded : ((((u.setBuffer (setupBytes bytes)).setIndex 0).setPending .null 0).setTransfer .setupReceived).Inv :=
    { hu with index := Nat.zero_le 8, pending := fun _ => rfl }
  exact loaded.orBytes _ (entryLanes_used ((usbBase .disg0).toNat, 1) (by decide))

/-- Queueing goes to StatusStage or DataStage, of which the invariant asks nothing (42_usb.md R183). -/
theorem UsbState.Inv.queueSend {u : UsbState} (hu : u.Inv) (buf : HostPtr) (len : Nat) :
    ((u.setPending buf len).setTransfer (if len = 0 then .statusStage else .dataStage)).Inv := by
  refine { hu with pending := fun h => ?_ }
  rw [setTransfer_transferState] at h
  split_ifs at h <;> simp at h

/-- Serving in DataStage stays there or goes to StatusStage (42_usb.md R185). -/
theorem UsbState.Inv.served {u : UsbState} (hu : u.Inv) (hd : u.transferState = .dataStage) : u.served.Inv := by
  have stays : (u.setPending (ptrPlus u.pendingBuffer u.chunkSize) (u.pendingLength - u.chunkSize)).Inv :=
    { hu with pending := fun h => by rw [setPending_transferState, hd] at h; simp at h }
  unfold UsbState.served
  dsimp only
  split
  · exact { stays with pending := fun h => by rw [setTransfer_transferState] at h; simp at h }
  · exact stays

theorem cleared_usb_inv : UsbState.cleared.Inv :=
  ⟨by decide, by decide, fun _ => rfl, fun _ _ _ => rfl, fun _ _ _ => rfl⟩

/-! ### The operations -/

section
variable {i : Instr} {s t : State}

/-- The waiting operations are the model's own: no operation looks at them. -/
theorem Effect.inputs (h : Effect i s t) : t.inputs = s.inputs := by cases h <;> rfl

/-- An operation keeps the control record's invariants, a restore only where the record restored has them
(93_implementation_defined.md I2). -/
theorem Effect.ctrl_inv (h : Effect i s t) (hs : s.ctrl.Inv)
    (hr : ∀ snap, i = .sbSnapshotRestore snap → snap.layout = .thisSpec → snap.ctrl.Inv) : t.ctrl.Inv := by
  cases h with
  | answers | draws | advances | usbWrite | usbRawWrite | usbReset | setDebugConfig | usbEntry | usbSetup | usbQueueSend
  | usbServeIn => exact hs
  | ctrlWrite obs al v r => exact hs.updated v r
  | ctrlRawWrite obs al off v => exact hs.setPort (by omega) v
  | coldInit => exact coldInit_ctrl_inv
  | globalReset => exact resetCtrl_inv _
  | latchViolation | setBatteryLevel | setCharging => exact { hs with }
  | restore snap hl => exact hr snap rfl hl

/-- The same for the USB record. A well-formed RAW write stays clear of the named registers (30_encoding.md R67). -/
theorem Effect.usb_inv (h : Effect i s t) (hs : s.usb.Inv) (hw : i.wf = true)
    (hr : ∀ snap, i = .sbSnapshotRestore snap → snap.layout = .thisSpec → snap.usb.Inv) : t.usb.Inv := by
  cases h with
  | answers | draws | ctrlWrite | ctrlRawWrite | latchViolation | setBatteryLevel | setCharging | setDebugConfig => exact hs
  | advances => exact hs.cxAdvance
  | usbWrite obs al lane v r => exact hs.updated v lane r
  | usbRawWrite obs al off v =>
    have raw : usbRegAt off = none := by simpa [Instr.wf] using hw
    exact hs.setReg (by omega) (fun h => absurd h (usbRaw_not_unused raw))
  | coldInit | globalReset | usbReset => exact cleared_usb_inv
  | usbEntry base n bits hl => exact hs.orBytes bits (entryLanes_used (base, n) hl)
  | usbSetup bytes => exact hs.loadSetup bytes
  | usbQueueSend buf len => exact hs.queueSend buf len
  | usbServeIn hd => exact hs.served hd
  | restore snap hl => exact hr snap rfl hl

/-- Only SB.SET_DEBUG_CONFIG changes the debugger's inputs, and a well-formed one brings canonical maps. -/
theorem Effect.dbg_wf (h : Effect i s t) (hs : DebugConfig.wf s.dbg = true) (hw : i.wf = true) :
    DebugConfig.wf t.dbg = true := by
  cases h with
  | setDebugConfig cfg => exact hw
  | _ => exact hs

end

/-! ### The step -/

/-- The operation of an access is no restore. -/
theorem decodeAccess_ne_restore (obs wr : Bool) (a : Addr) (v : Byte) (snap : Snapshot) :
    decodeAccess obs wr a v ≠ .sbSnapshotRestore snap := by
  have ctrl : ∀ r al, ctrlReadInstr obs al r ≠ .sbSnapshotRestore snap ∧ ctrlWriteInstr obs al v r ≠ .sbSnapshotRestore snap :=
    fun r al => by cases r <;> exact ⟨nofun, nofun⟩
  have usb : ∀ r al lane,
      usbReadInstr obs al lane r ≠ .sbSnapshotRestore snap ∧ usbWriteInstr obs al lane v r ≠ .sbSnapshotRestore snap :=
    fun r al lane => by cases r <;> exact ⟨nofun, nofun⟩
  unfold decodeAccess
  split_ifs
  · unfold decodeCtrl
    split
    · exact (ctrl _ _).1
    · exact (ctrl _ _).2
    · exact nofun
    · exact nofun
  · unfold decodeUsb
    split
    · exact (usb _ _ _).1
    · exact (usb _ _ _).2
    · exact nofun
    · exact nofun
  · unfold decodeExt
    split <;> exact nofun

/-- A restore is decoded from an operand list that holds its record (30_encoding.md R71). -/
theorem restore_operand {t : Transaction} {snap : Snapshot} (h : decode t = .ok (.sbSnapshotRestore snap)) :
    Operand.snapshot snap ∈ t.operands := by
  obtain ⟨-, -, hi⟩ | ⟨-, -, p, -, hp⟩ := decode_ok h
  · exact absurd hi.symm (decodeAccess_ne_restore _ _ _ _ _)
  · cases p with
    | snapshotRestore =>
      obtain ⟨record, hl, -, hi⟩ := takeSnapshot_some (wellTyped_ok hp)
      cases hi
      rw [hl]
      exact List.mem_singleton_self _
    | coldInit | globalReset | usbReset | usbServeIn | usbStatusSummary | snapshotSave | powerState =>
      obtain ⟨-, hi⟩ := takeNone_some (wellTyped_ok hp); cases hi
    | latchViolation | usbHostInt | usbGrp0Int => obtain ⟨v, -, hi⟩ := takeU8_some (wellTyped_ok hp); cases hi
    | usbGrp2Int => obtain ⟨v, -, hi⟩ := takeU16_some (wellTyped_ok hp); cases hi
    | privCheck => obtain ⟨v, -, hi⟩ := takeU24_some (wellTyped_ok hp); cases hi
    | usbOtgInt | usbGrp1Int => obtain ⟨v, -, hi⟩ := takeU32_some (wellTyped_ok hp); cases hi
    | setBatteryLevel => obtain ⟨n, level, -, -, hi⟩ := decodeLevel_ok hp; cases hi
    | setCharging => obtain ⟨b, -, hi⟩ := takeBool_some (wellTyped_ok hp); cases hi
    | usbSetup => obtain ⟨bytes, -, hi⟩ := takeBytes_some (wellTyped_ok hp); cases hi
    | usbQueueSend => obtain ⟨buf, len, -, hi⟩ := takeView_some (wellTyped_ok hp); cases hi
    | setDebugConfig => obtain ⟨cfg, -, -, hi⟩ := takeDebugConfig_some (wellTyped_ok hp); cases hi

/-- If the waiting snapshot records satisfy `P` and `Q`, then so does the record of a restore that comes next, and so do those
that wait after it. -/
theorem State.Queued.cons {P : CtrlState → Prop} {Q : UsbState → Prop} {s : State} {w : Transaction}
    {rest : List Transaction} (hq : s.Queued P Q) (hs : s.inputs = w :: rest) :
    (∀ snap, decode w = .ok (.sbSnapshotRestore snap) → snap.layout = .thisSpec → P snap.ctrl ∧ Q snap.usb) ∧
    ∀ t : State, t.inputs = rest → t.Queued P Q := by
  refine ⟨fun snap hd => hq w (by simp [hs]) snap (restore_operand hd), fun t ht w' hw' => hq w' ?_⟩
  rw [hs]
  exact List.mem_cons_of_mem w (ht ▸ hw')

/-- Settles O21: an idle step changes no record; any other step is one well-formed operation, whose effect keeps the invariants of
each record and leaves the operations after it waiting. -/
theorem stepKeepsInvariants : Obligations.StepKeepsInvariants := by
  unfold Obligations.StepKeepsInvariants
  intro s t hs h
  obtain ⟨-, rfl⟩ | ⟨w, rest, i, hin, hd, hx⟩ := step_next h
  · exact ⟨hs.ctrl, hs.usb, hs.dbg, hs.queued⟩
  · have effect := exec_effect hx
    have wf := wf_of_decode hd
    obtain ⟨restored, waiting⟩ := hs.queued.cons hin
    exact
      { ctrl := effect.ctrl_inv hs.ctrl (fun snap hi hl => (restored snap (hi ▸ hd) hl).1)
        usb := effect.usb_inv hs.usb wf (fun snap hi hl => (restored snap (hi ▸ hd) hl).2)
        dbg := effect.dbg_wf hs.dbg wf
        queued := waiting t effect.inputs }

end Sys2Proof.Machine
end

section
/-! PROOFS. The family 10_state, third part: the initialisation flag (10_state.md R19), the clock rate (R30), the off mark (R29),
and the state after reset (R41, R44). -/

namespace Sys2Proof.Machine

/-! ### The initialisation flag -/

/-- Only cold init touches the flag. -/
theorem Effect.initialised {i : Instr} {s t : State} (h : Effect i s t) (hi : i ≠ .sbColdInit) :
    t.initialised = s.initialised := by
  cases h with
  | coldInit => exact absurd rfl hi
  | _ => rfl

/-- Settles O15: the check of the shared routines, and what an operation that got past it can do. -/
theorem uninitialisedBlockFaults : Obligations.UninitialisedBlockFaults := by
  unfold Obligations.UninitialisedBlockFaults
  refine ⟨fun i s hs hi => exec_uninitialised hs hi, fun i s t h => ?_⟩
  by_cases hi : i = .sbColdInit
  · subst hi; injection h with h; rw [← h]; rfl
  · rw [(exec_effect h).initialised hi]
    refine Bool.eq_true_of_not_eq_false (fun hs => ?_)
    rw [exec_uninitialised hs hi] at h
    cases h

/-! ### The clock rate -/

/-- The rate of the stored code is that of the written byte's two low bits (41_control.md R100). -/
theorem clockRateOf_speedCodeOf (v : Byte) : clockRateOf (speedCodeOf v) = Config.clockRate (v.extractLsb' 0 2) := by
  have low : ∀ v : Byte, (speedCodeOf v).extractLsb' 0 2 = v.extractLsb' 0 2 := by decide
  rw [clockRateOf, low]

/-- A write of a named control register other than SPEED leaves the speed code. -/
theorem ctrlUpdated_cpuSpeedCode {r : CtrlReg} (hr : r ≠ .speed) (v : Byte) (c : CtrlState) :
    (ctrlUpdated v r c).cpuSpeedCode = c.cpuSpeedCode := by
  cases r with
  | speed => exact absurd rfl hr
  | shutdown => by_cases hv : v = Config.shutdownCode <;> simp [ctrlUpdated, hv]
  | _ => rfl

@[simp] theorem resetCtrl_cpuSpeedCode (c : CtrlState) : (resetCtrl c).cpuSpeedCode = 0#5 := by
  rw [resetCtrl_eq]; split <;> rfl

/-- What an operation does to the clock: it leaves the code and sets no rate, it emits the rate of the code it leaves and no
other, or it is a restore and sets none. -/
theorem Effect.clock {i : Instr} {s t : State} (h : Effect i s t) :
    (t.ctrl.cpuSpeedCode = s.ctrl.cpuSpeedCode ∧ Clockless t.out.events) ∨
    (∀ q, Event.setClock q ∈ t.out.events ↔ q = clockRateOf t.ctrl.cpuSpeedCode) ∨
    ((∃ snap, i = .sbSnapshotRestore snap) ∧ Clockless t.out.events) := by
  cases h with
  | answers he | draws he | advances he | ctrlRawWrite _ _ _ _ he | usbWrite _ _ _ _ _ he | usbRawWrite _ _ _ _ he =>
    exact .inl ⟨rfl, he⟩
  | usbReset | latchViolation | setBatteryLevel | setCharging | setDebugConfig | usbQueueSend | usbServeIn =>
    exact .inl ⟨rfl, clockless_nil⟩
  | usbEntry | usbSetup => exact .inl ⟨rfl, fun q => by simp⟩
  | coldInit => exact .inr (.inl (fun q => by simp [clockRateOf, CtrlState.coldInit]))
  | globalReset => exact .inr (.inl (fun q => by simp [clockRateOf]))
  | restore snap => exact .inr (.inr ⟨⟨snap, rfl⟩, clockless_nil⟩)
  | ctrlWrite obs al v r =>
    have emitted : ∀ q, Event.setClock q ∈
        writeWatch obs (ctrlRegAddr r al) s.dbg ++ ctrlEmitted obs al v r s.dbg ↔
          r = .speed ∧ q = Config.clockRate (v.extractLsb' 0 2) := by
      intro q
      rw [List.mem_append, setClock_mem_ctrlEmitted, or_iff_right (clockless_writeWatch _ _ _ q)]
    by_cases hr : r = .speed
    · subst hr
      exact .inr (.inl (fun q => by
        rw [State.finish_out, emitted q, State.finish_ctrl, State.setCtrl_ctrl]
        simp [ctrlUpdated, clockRateOf_speedCodeOf]))
    · exact .inl ⟨ctrlUpdated_cpuSpeedCode hr v _, fun q hq => hr ((emitted q).mp hq).1⟩

/-- Settles O37, case by case of what an operation does to the clock. -/
theorem clockRateAgrees : Obligations.ClockRateAgrees := by
  unfold Obligations.ClockRateAgrees
  intro i s t h
  obtain ⟨hcode, hno⟩ | hemit | ⟨⟨snap, hi⟩, hno⟩ := (exec_effect h).clock
  · exact ⟨fun q hq => absurd hq (hno q), fun _ hne => absurd (by rw [hcode]) hne⟩
  · exact ⟨fun q hq => (hemit q).mp hq, fun _ _ => (hemit _).mpr rfl⟩
  · exact ⟨fun q hq => absurd hq (hno q), fun hr => absurd hi (hr snap)⟩

/-! ### The off mark -/

/-- Of the control writes only the shutdown code touches the off mark, and sets it (41_control.md R113). -/
theorem ctrlUpdated_poweredOff (v : Byte) (r : CtrlReg) (c : CtrlState) :
    (ctrlUpdated v r c).poweredOff = c.poweredOff ∨
      (r = .shutdown ∧ v = Config.shutdownCode ∧ (ctrlUpdated v r c).poweredOff = true) := by
  cases r with
  | shutdown =>
    by_cases hv : v = Config.shutdownCode
    · exact .inr ⟨rfl, hv, by simp [ctrlUpdated, hv]⟩
    · exact .inl (by simp [ctrlUpdated, hv])
  | _ => exact .inl rfl

/-- The off mark survives a global reset (43_sideband.md R191). -/
@[simp] theorem resetCtrl_poweredOff (c : CtrlState) : (resetCtrl c).poweredOff = c.poweredOff := by
  rw [resetCtrl_eq]
  split
  case isTrue h => exact h.symm
  case isFalse h => exact (Bool.eq_false_of_not_eq_true h).symm

/-- What an operation does to the off mark: it leaves it, or it is the write of the shutdown code, which sets it, cold init,
which clears it, or a restore. -/
theorem Effect.poweredOff {i : Instr} {s t : State} (h : Effect i s t) :
    t.ctrl.poweredOff = s.ctrl.poweredOff ∨
    ((∃ obs al, i = .ctrlShutdownW obs al Config.shutdownCode) ∧ t.ctrl.poweredOff = true) ∨
    (i = .sbColdInit ∧ t.ctrl.poweredOff = false) ∨ ∃ snap, i = .sbSnapshotRestore snap := by
  cases h with
  | ctrlWrite obs al v r =>
    obtain h | ⟨rfl, rfl, h⟩ := ctrlUpdated_poweredOff v r s.ctrl
    · exact .inl h
    · exact .inr (.inl ⟨⟨obs, al, rfl⟩, h⟩)
  | coldInit => exact .inr (.inr (.inl ⟨rfl, rfl⟩))
  | globalReset => exact .inl (resetCtrl_poweredOff s.ctrl)
  | restore snap => exact .inr (.inr (.inr ⟨snap, rfl⟩))
  | _ => exact .inl rfl

/-- Settles O38, case by case of what an operation does to the off mark. -/
theorem offMarkChanges : Obligations.OffMarkChanges := by
  unfold Obligations.OffMarkChanges
  intro i s t h hr
  obtain hkept | ⟨hi, hset⟩ | ⟨hi, hclear⟩ | ⟨snap, hi⟩ := (exec_effect h).poweredOff
  · exact ⟨fun hs ht => by simp [hkept, hs] at ht, fun hs ht => by simp [hkept, hs] at ht⟩
  · exact ⟨fun _ _ => hi, fun _ ht => by simp [hset] at ht⟩
  · exact ⟨fun _ ht => by simp [hclear] at ht, fun _ _ => hi⟩
  · exact absurd hi (hr snap)

/-! ### The state after reset -/

theorem reset_ready : State.reset.Ready :=
  ⟨rfl, fun k => by rw [handler_bound rfl]; exact deviceOf_ne_unbound k⟩

/-- No operation waits after reset, so nothing is asked of a waiting record. -/
theorem reset_queued (P : CtrlState → Prop) (Q : UsbState → Prop) : State.reset.Queued P Q := fun _ ht =>
  absurd ht List.not_mem_nil

/-- After cold init the control array holds one byte, the USB mirror's. -/
theorem coldInit_ports_read (a : Nat) : CtrlState.coldInit.ports.read a = if a = 0x0F then 0x02#8 else 0x00#8 :=
  Memory.read_cons ..

theorem coldInit_ctrl_storage : CtrlState.coldInit.Storage where
  wf := by decide
  unstored := by decide
  high := fun a ha => by rw [coldInit_ports_read, if_neg (by omega)]

theorem cleared_usb_storage : UsbState.cleared.Storage :=
  ⟨by decide, fun _ _ _ => rfl, fun _ _ _ => rfl, fun _ _ _ => rfl, rfl⟩

theorem cleared_usb_pending : UsbState.cleared.PendingInDataStage := by
  unfold UsbState.PendingInDataStage; decide

/-- Settles O24, record by record. -/
theorem resetMeetsInvariants : Obligations.ResetMeetsInvariants :=
  ⟨reset_ready, ⟨coldInit_ctrl_inv, cleared_usb_inv, rfl, reset_queued _ _⟩,
    ⟨coldInit_ctrl_storage, cleared_usb_storage, reset_queued _ _⟩, ⟨cleared_usb_pending, reset_queued _ _⟩⟩

/-- Settles O52: the arrays at every address, and the other fields as the record of cold init gives them. -/
theorem coldInitValues : Obligations.ColdInitValues := by
  unfold Obligations.ColdInitValues
  exact ⟨rfl, coldInit_ports_read, rfl, rfl, rfl, rfl, rfl, rfl, rfl, rfl, rfl, rfl, rfl, Memory.read_nil, rfl, rfl, rfl, rfl,
    rfl⟩

end Sys2Proof.Machine
end

section
/-! PROOFS. The family 20_memory: the step of a port read on a ready block, said once for every address, and what such a read
leaves unchanged (20_memory.md R53, 40_dispatcher.md R80, R84). -/

namespace Sys2Proof.Machine

/-! ### The observable read's watch -/

/-- An RD opens the debugger exactly at a watched address of an attached debugger (40_dispatcher.md R80, R90). -/
theorem readWatch_observable (a : Addr) (d : DebugConfig) :
    readWatch true a d =
      if d.attached = true ∧ a ∈ d.watchRead then [.debugOpen Config.dbgReasonPortRead a] else [] := by
  simp [readWatch, AddrMap.has]

/-! ### A port read of a ready block -/

/-- Readiness does not depend on the answer of the last operation. -/
theorem State.Ready.finish {s : State} (hs : s.Ready) (e : List Event) (r : Result) : (s.finish e r).Ready := hs

/-- The endpoint-0 cursor is all that a read of the data port moves (42_usb.md R172). -/
theorem UsbState.cxAdvance_eq (u : UsbState) : u.cxAdvance = { u with ep0Index := u.cxAdvance.ep0Index } := by
  unfold UsbState.cxAdvance
  split <;> rfl

/-- On a ready block a port read is the device's read behind the access routine. -/
theorem step_read_of_form {obs : Bool} {a : Addr} {v : Byte} {dev : Offset → State → ReadAnswer} {s : State} (hs : s.Ready)
    (h : exec (decodeAccess obs false a v) s = portRead obs a dev s) :
    step (s.enqueue (portTransaction obs false a v)) =
      .next ((dev (offsetOf a) s).state.finish
        ((dev (offsetOf a) s).events ++ readWatch obs a s.dbg) (.byte (dev (offsetOf a) s).value)) := by
  obtain ⟨initialised, bound⟩ := hs
  rw [step_port, h, portRead_eq_next initialised (bound _)]

/-- Everything a port read of a ready block does, by its address: it answers a value of the two devices' records, or it reads the
data port, or it is forwarded to an external device and draws a free value. -/
theorem step_read_cases (a : Addr) :
    (∃ val : CtrlState → UsbState → Byte, ∀ (obs : Bool) (v : Byte) (s : State), s.Ready →
      step (s.enqueue (portTransaction obs false a v)) =
        .next (s.finish (readWatch obs a s.dbg) (.byte (val s.ctrl s.usb)))) ∨
    ((rangeOf a = 0x3#4 ∧ a.extractLsb' 2 7 = 0b1110100#7) ∧ ∀ (obs : Bool) (v : Byte) (s : State), s.Ready →
      step (s.enqueue (portTransaction obs false a v)) =
        .next ((if obs then s.setUsb s.usb.cxAdvance else s).finish (readWatch obs a s.dbg) (.byte s.usb.cxByte))) ∨
    (¬(rangeOf a = 0x0#4 ∨ rangeOf a = 0x3#4) ∧ ∀ (obs : Bool) (v : Byte) (s : State), s.Ready →
      step (s.enqueue (portTransaction obs false a v)) =
        .next (s.drawn.finish (.extRead (rangeOf a) (offsetOf a) obs :: readWatch obs a s.dbg)
          (.byte (Config.freeByte s.draws)))) := by
  obtain ⟨-, val, h⟩ | ⟨h3, ⟨val, h⟩ | ⟨hport, h⟩⟩ | ⟨h0, h3, h⟩ := read_form a
  · exact .inl ⟨val, fun obs v s hs => step_read_of_form hs (h obs v s)⟩
  · exact .inl ⟨val, fun obs v s hs => step_read_of_form hs (h obs v s)⟩
  · exact .inr (.inl ⟨⟨h3, hport⟩, fun obs v s hs => step_read_of_form hs (h obs v s)⟩)
  · exact .inr (.inr ⟨not_or.mpr ⟨h0, h3⟩, fun obs v s hs => step_read_of_form hs (h obs v s)⟩)

/-- Settles O10, by the three kinds of read. A value of the records is the same at the second read because the first leaves both
records; an external read lies outside the two ranges of the last clause. -/
theorem readHasNoOtherEffect : Obligations.ReadHasNoOtherEffect := by
  unfold Obligations.ReadHasNoOtherEffect
  intro s a hs
  obtain ⟨val, hstep⟩ | ⟨hport, hstep⟩ | ⟨hext, hstep⟩ := step_read_cases a
  · have again := hstep true 0x00#8 _ (hs.finish (readWatch true a s.dbg) (.byte (val s.ctrl s.usb)))
    exact ⟨_, hstep true 0x00#8 s hs, rfl, fun _ => rfl,
      fun _ => ⟨rfl, readWatch_observable a s.dbg, fun _ => ⟨_, again, rfl⟩⟩⟩
  · refine ⟨_, hstep true 0x00#8 s hs, ?frame, fun hn => absurd hport hn,
      fun _ => ⟨rfl, readWatch_observable a s.dbg, fun hn => absurd hport hn⟩⟩
    exact congrArg (fun u => (s.setUsb u).finish (readWatch true a s.dbg) (.byte s.usb.cxByte)) s.usb.cxAdvance_eq
  · exact ⟨_, hstep true 0x00#8 s hs, rfl, fun _ => rfl, fun hr => absurd hr hext⟩

end Sys2Proof.Machine
end

section
/-! PROOFS. The family 30_encoding, first part: decode and encode agree (30_encoding.md R64 to R71), and the multi-byte lines expand
to byte operations (R74). -/

namespace Sys2Proof.Machine

/-! ### Decoding the words of the encoder -/

@[simp] theorem decodeAccess_ctrlAddr (obs wr : Bool) (off : BitVec 7) (al : BitVec 5) (v : Byte) :
    decodeAccess obs wr (ctrlAddr off al) v = decodeCtrl obs wr al off v := by
  rw [decodeAccess_ctrl (rangeOf_ctrlAddr off al), ctrlAddr_alias, ctrlAddr_low]

@[simp] theorem decodeAccess_usbAddr (obs wr : Bool) (off : BitVec 9) (al : BitVec 3) (v : Byte) :
    decodeAccess obs wr (usbAddr off al) v = decodeUsb obs wr al off v := by
  rw [decodeAccess_usb (rangeOf_usbAddr off al), usbAddr_alias, usbAddr_low]

/-- Every named control register's word decodes to its row (30_encoding.md R68). -/
theorem decode_ctrlRead (obs : Bool) (al : BitVec 5) (r : CtrlReg) (v : Byte) :
    decode (portTransaction obs false (ctrlRegAddr r al) v) = .ok (ctrlReadInstr obs al r) := by
  simp [ctrlRegAddr, decodeCtrl]

theorem decode_ctrlWrite (obs : Bool) (al : BitVec 5) (v : Byte) (r : CtrlReg) :
    decode (portTransaction obs true (ctrlRegAddr r al) v) = .ok (ctrlWriteInstr obs al v r) := by
  simp [ctrlRegAddr, decodeCtrl]

/-- The word of every byte lane of a named USB register decodes to the register's row (30_encoding.md R69). -/
theorem decode_usbRead (obs : Bool) (al : BitVec 3) (lane : BitVec 2) (r : UsbReg) (v : Byte) :
    decode (portTransaction obs false (usbRegAddr r lane al) v) = .ok (usbReadInstr obs al lane r) := by
  simp [usbRegAddr, decodeUsb]

theorem decode_usbWrite (obs : Bool) (al : BitVec 3) (lane : BitVec 2) (v : Byte) (r : UsbReg) :
    decode (portTransaction obs true (usbRegAddr r lane al) v) = .ok (usbWriteInstr obs al lane v r) := by
  simp [usbRegAddr, decodeUsb]

/-- A word of a range of neither device decodes to the external row (30_encoding.md R70). -/
theorem decode_ext (obs wr : Bool) {k : RangeNo} (l : Offset) (v : Byte) (h0 : k ≠ Config.ctrlRange)
    (h3 : k ≠ Config.usbRange) : decode (portTransaction obs wr (extAddr k l) v) = .ok (decodeExt obs wr k l v) := by
  rw [decode_portTransaction, decodeAccess_ext (by rwa [rangeOf_extAddr]) (by rwa [rangeOf_extAddr]), rangeOf_extAddr,
    extAddr_low]

/-- The round trip, one case for each form of row. Well-formedness is used where a row has it: at the RAW and the external rows,
which hold only what no other row takes, and at the two structured operands. -/
theorem decode_encode {i : Instr} (hw : i.wf = true) : decode (encode i) = .ok i := by
  cases i with
  | ctrlResetR obs al | ctrlSpeedR obs al | ctrlBattStatusR obs al | ctrlDevtypeR obs al | ctrlPowerModeR obs al
  | ctrlBattHsR obs al | ctrlChargeR obs al | ctrlShutdownR obs al | ctrlUsbMirrorR obs al | ctrlPriv0R obs al
  | ctrlPriv1R obs al | ctrlPriv2R obs al | ctrlPstart0R obs al | ctrlPstart1R obs al | ctrlPstart2R obs al
  | ctrlPend0R obs al | ctrlPend1R obs al | ctrlPend2R obs al | ctrlMiscR obs al | ctrlStack0R obs al
  | ctrlStack1R obs al | ctrlStack2R obs al | ctrlPstatusR obs al | ctrlPackR obs al =>
    exact decode_ctrlRead obs al _ _
  | ctrlResetW obs al v | ctrlSpeedW obs al v | ctrlBattStatusW obs al v | ctrlDevtypeW obs al v
  | ctrlPowerModeW obs al v | ctrlBattHsW obs al v | ctrlChargeW obs al v | ctrlShutdownW obs al v
  | ctrlUsbMirrorW obs al v | ctrlPriv0W obs al v | ctrlPriv1W obs al v | ctrlPriv2W obs al v | ctrlPstart0W obs al v
  | ctrlPstart1W obs al v | ctrlPstart2W obs al v | ctrlPend0W obs al v | ctrlPend1W obs al v | ctrlPend2W obs al v
  | ctrlMiscW obs al v | ctrlStack0W obs al v | ctrlStack1W obs al v | ctrlStack2W obs al v | ctrlPstatusW obs al v
  | ctrlPackW obs al v =>
    exact decode_ctrlWrite obs al v _
  | usbUsbstsR obs al lane | usbUsbintrR obs al lane | usbOtgisrR obs al lane | usbOtgierR obs al lane
  | usbGisrR obs al lane | usbGmirR obs al lane | usbDcfesrR obs al lane | usbDmigrR obs al lane
  | usbDmisg0R obs al lane | usbDmisg1R obs al lane | usbDmisg2R obs al lane | usbDigrR obs al lane
  | usbDisg0R obs al lane | usbDisg1R obs al lane | usbDisg2R obs al lane | usbCxportR obs al lane =>
    exact decode_usbRead obs al lane _ _
  | usbUsbstsW obs al lane v | usbUsbintrW obs al lane v | usbOtgisrW obs al lane v | usbOtgierW obs al lane v
  | usbGisrW obs al lane v | usbGmirW obs al lane v | usbDcfesrW obs al lane v | usbDmigrW obs al lane v
  | usbDmisg0W obs al lane v | usbDmisg1W obs al lane v | usbDmisg2W obs al lane v | usbDigrW obs al lane v
  | usbDisg0W obs al lane v | usbDisg1W obs al lane v | usbDisg2W obs al lane v | usbCxportW obs al lane v =>
    exact decode_usbWrite obs al lane v _
  | ctrlRawR obs al off | ctrlRawW obs al off v =>
    have unnamed : ctrlRegAt off = none := by simpa [Instr.wf] using hw
    simp [encode, decodeCtrl, unnamed]
  | usbRawR obs al off | usbRawW obs al off v =>
    have unnamed : usbRegAt off = none := by simpa [Instr.wf] using hw
    simp [encode, decodeUsb, unnamed]
  | extR obs k l =>
    obtain ⟨h0, h3⟩ : k ≠ Config.ctrlRange ∧ k ≠ Config.usbRange := by simpa [Instr.wf] using hw
    exact decode_ext obs false l 0x00#8 h0 h3
  | extW obs k l v =>
    obtain ⟨h0, h3⟩ : k ≠ Config.ctrlRange ∧ k ≠ Config.usbRange := by simpa [Instr.wf] using hw
    exact decode_ext obs true l v h0 h3
  | sbSetBatteryLevel level => simp [encode, decodeSb, decodeLevel, takeNat]
  | sbSetDebugConfig cfg =>
    have canonical : DebugConfig.wf cfg = true := hw
    simp [encode, decodeSb, takeDebugConfig, canonical, wellTyped]
  | sbSnapshotRestore snap =>
    have canonical : Snapshot.wf snap = true := hw
    simp [encode, decodeSb, takeSnapshot, canonical, wellTyped]
  | _ => exact decode_sbTransaction _ _

/-- Settles O2: the round trip by the forms of the rows, and the well-formedness of whatever decodes. -/
theorem decodeAndEncodeAgree : Obligations.DecodeAndEncodeAgree := by
  unfold Obligations.DecodeAndEncodeAgree
  exact ⟨fun _ hw => decode_encode hw, fun _ _ h => wf_of_decode h⟩

/-- Settles O1: each written-out word is the one the encoder writes for a well-formed operation. -/
theorem writtenWordsDecode : Obligations.WrittenWordsDecode := by
  unfold Obligations.WrittenWordsDecode
  exact ⟨decode_encode (i := .ctrlSpeedW true 0#5 0xFF#8) rfl, decode_encode (i := .ctrlUsbMirrorR false 0b11110#5) rfl,
    decode_encode (i := .usbUsbstsR true 0b111#3 1#2) rfl, decode_encode (i := .extW false 0x5#4 0x004#12 0x01#8) rfl,
    decode_encode (i := .sbPrivCheck 0x000150#24) rfl⟩

/-! ### Pseudo-operations (30_encoding.md R74) -/

theorem asmWrites_zero {w : Nat} (line : Addr → Byte → Transaction) (a : Addr) (v : BitVec w) :
    asmWrites line 0 a v = [] := rfl

/-- One byte more is written last, at the next address. -/
theorem asmWrites_succ {w : Nat} (line : Addr → Byte → Transaction) (n : Nat) (a : Addr) (v : BitVec w) :
    asmWrites line (n + 1) a v = asmWrites line n a v ++ [line (a + BitVec.ofNat 16 n) (byteN v n)] := by
  simp [asmWrites, List.range_succ]

theorem asmReads_zero (line : Addr → Transaction) (a : Addr) : asmReads line 0 a = [] := rfl

/-- One byte more is read last, at the next address. -/
theorem asmReads_succ (line : Addr → Transaction) (n : Nat) (a : Addr) :
    asmReads line (n + 1) a = asmReads line n a ++ [line (a + BitVec.ofNat 16 n)] := by
  simp [asmReads, List.range_succ]

theorem join32_bytes (x : Word32) : join32 (byteN x 0) (byteN x 1) (byteN x 2) (byteN x 3) = x := by
  have joined : byteN x 3 ++ byteN x 2 ++ byteN x 1 ++ byteN x 0 = x.extractLsb' 0 32 := by
    unfold byteN
    rw [BitVec.extractLsb'_append_extractLsb'_eq_extractLsb', BitVec.extractLsb'_append_extractLsb'_eq_extractLsb',
      BitVec.extractLsb'_append_extractLsb'_eq_extractLsb']
    all_goals rfl
  exact joined.trans BitVec.extractLsb'_eq_self

/-- Settles O6, one byte at a time; the choice between WR and POKE, RD and PEEK plays no part. -/
theorem pseudoOperationsExpand : Obligations.PseudoOperationsExpand := by
  unfold Obligations.PseudoOperationsExpand
  refine ⟨fun line _ => ⟨fun a v => ?writes3, fun a v => ?writes4⟩, fun line _ a => ⟨?reads3, ?reads4⟩, join24_bytes,
    join32_bytes⟩
  case writes3 | writes4 => simp [asmWrites_succ, asmWrites_zero, byteN]
  case reads3 | reads4 => simp [asmReads_succ, asmReads_zero]

end Sys2Proof.Machine
end

section
/-! PROOFS. The family 30_encoding, second part: the reserved encodings are refused (30_encoding.md R72), and decode is the
first-row search of the opcode table (R67). -/

namespace Sys2Proof.Machine

/-! ### The operation numbers of the side band -/

theorem sbOpAt_eq_some {c : BitVec 7} {p : SbOp} (h : sbOpAt c = some p) : sbCode p = c := by
  simpa using List.find?_some h

@[simp] theorem sbOpAt_sbCode (p : SbOp) : sbOpAt (sbCode p) = some p := by cases p <;> rfl

theorem sbCode_bounds (p : SbOp) : 0x01 ≤ (sbCode p).toNat ∧ (sbCode p).toNat ≤ 0x14 := by cases p <;> decide

/-- 43_sideband.md R193 names six levels. -/
theorem levelOfNat_of_six_le {n : Nat} (h : 6 ≤ n) : levelOfNat n = none := by
  obtain ⟨k, rfl⟩ := Nat.exists_eq_add_of_le' h
  rfl

/-- The mnemonic of a side-band operation, whatever its operands. -/
def sbMnemonic (p : SbOp) : String :=
  match decodeSb p (zeroOperands p) with
  | .ok i => i.mnemonic
  | .error _ => ""

/-- An operand list that a side-band operation takes has the types of its row, and the operation bears its mnemonic
(30_encoding.md R71): one case for each operand form. -/
theorem decodeSb_ok {p : SbOp} {l : List Operand} {i : Instr} (h : decodeSb p l = .ok i) :
    l.map operandType = sbTypes p ∧ i.mnemonic = sbMnemonic p := by
  cases p with
  | coldInit | globalReset | usbReset | usbServeIn | usbStatusSummary | snapshotSave | powerState =>
    obtain ⟨rfl, rfl⟩ := takeNone_some (wellTyped_ok h); exact ⟨rfl, rfl⟩
  | latchViolation | usbHostInt | usbGrp0Int =>
    obtain ⟨v, rfl, rfl⟩ := takeU8_some (wellTyped_ok h); exact ⟨rfl, rfl⟩
  | usbGrp2Int => obtain ⟨v, rfl, rfl⟩ := takeU16_some (wellTyped_ok h); exact ⟨rfl, rfl⟩
  | privCheck => obtain ⟨v, rfl, rfl⟩ := takeU24_some (wellTyped_ok h); exact ⟨rfl, rfl⟩
  | usbOtgInt | usbGrp1Int => obtain ⟨v, rfl, rfl⟩ := takeU32_some (wellTyped_ok h); exact ⟨rfl, rfl⟩
  | setBatteryLevel => obtain ⟨n, level, rfl, -, rfl⟩ := decodeLevel_ok h; exact ⟨rfl, rfl⟩
  | setCharging => obtain ⟨b, rfl, rfl⟩ := takeBool_some (wellTyped_ok h); exact ⟨rfl, rfl⟩
  | usbSetup => obtain ⟨bytes, rfl, rfl⟩ := takeBytes_some (wellTyped_ok h); exact ⟨rfl, rfl⟩
  | usbQueueSend => obtain ⟨buf, len, rfl, rfl⟩ := takeView_some (wellTyped_ok h); exact ⟨rfl, rfl⟩
  | setDebugConfig => obtain ⟨cfg, rfl, -, rfl⟩ := takeDebugConfig_some (wellTyped_ok h); exact ⟨rfl, rfl⟩
  | snapshotRestore => obtain ⟨snap, rfl, -, rfl⟩ := takeSnapshot_some (wellTyped_ok h); exact ⟨rfl, rfl⟩

/-! ### Reserved encodings (30_encoding.md R72) -/

/-- Every PORT word with `Z = 0` is legal. -/
theorem decode_port {t : Transaction} (hp : t.word.getLsbD 31 = false) (hz : t.word.extractLsb' 26 5 = 0#5) :
    decode t = .ok (decodePort t.word) := by
  unfold decode
  rw [hp, if_neg Bool.false_ne_true, if_pos hz]

theorem refused_of_ne_ok {t : Transaction} (h : ∀ i, decode t ≠ .ok i) : ∃ e, decode t = .error e := by
  cases hd : decode t with
  | ok i => exact absurd hd (h i)
  | error e => exact ⟨e, rfl⟩

/-- Settles O4: a reserved word is none of the words that decode, and a reserved operand list is none that its operation takes. -/
theorem reservedEncodingsRefused : Obligations.ReservedEncodingsRefused := by
  unfold Obligations.ReservedEncodingsRefused
  refine ⟨fun t hp hz => refused_of_ne_ok fun i h => ?portBits, fun t hp hz => ⟨_, decode_port hp hz⟩,
    fun t hsb hop => refused_of_ne_ok fun i h => ?op, fun t hsb hz => refused_of_ne_ok fun i h => ?sbBits,
    fun n hn => refused_of_ne_ok fun i h => ?level, fun p l hl => refused_of_ne_ok fun i h => ?types⟩
  case portBits =>
    obtain ⟨-, hz', -⟩ | ⟨hsb, -⟩ := decode_ok h
    · exact hz hz'
    · exact Bool.false_ne_true (hp.symm.trans hsb)
  case op =>
    obtain ⟨hp, -⟩ | ⟨-, -, p, hp, -⟩ := decode_ok h
    · exact Bool.false_ne_true (hp.symm.trans hsb)
    · obtain ⟨low, high⟩ := sbCode_bounds p
      rw [← sbOpAt_eq_some hp] at hop
      obtain hop | hop := hop
      · simp [hop] at low
      · omega
  case sbBits =>
    obtain ⟨hp, -⟩ | ⟨-, hz', -⟩ := decode_ok h
    · exact Bool.false_ne_true (hp.symm.trans hsb)
    · exact hz hz'
  case level =>
    have hd : decodeLevel [.nat n] = .ok i := (decode_sbTransaction ..).symm.trans h
    obtain ⟨m, level, hm, hlevel, -⟩ := decodeLevel_ok hd
    cases hm
    rw [levelOfNat_of_six_le hn] at hlevel
    cases hlevel
  case types =>
    rw [decode_sbTransaction] at h
    exact hl (decodeSb_ok h).1

/-! ### The words that decode are the assembler's -/

theorem portWord_split {t : Word32} (hp : t.getLsbD 31 = false) (hz : t.extractLsb' 26 5 = 0#5) :
    portWord (!t.getLsbD 25) (t.getLsbD 24) (t.extractLsb' 8 16) (t.extractLsb' 0 8) = t := by
  have reserved : ∀ j < 5, t.getLsbD (26 + j) = false := fun j hj => by
    simpa [hj] using congrArg (fun z : BitVec 5 => z.getLsbD j) hz
  refine BitVec.eq_of_getLsbD_eq (fun i hi => ?_)
  rw [getLsbD_portWord]
  split_ifs with h8 h24 hw hobs
  · simp [h8]
  · simp [show i - 8 < 16 by omega, show 8 + (i - 8) = i by omega]
  · rw [hw]
  · rw [hobs, Bool.not_not]
  · by_cases h31 : i = 31
    · rw [h31, hp]
    · rw [show i = 26 + (i - 26) by omega, reserved _ (by omega)]

theorem sbTransaction_split {t : Transaction} {p : SbOp} (hsb : t.word.getLsbD 31 = true)
    (hz : t.word.extractLsb' 0 24 = 0#24) (hop : sbCode p = t.word.extractLsb' 24 7) :
    sbTransaction p t.operands = t := by
  suffices h : (1#1 ++ sbCode p ++ 0#24 : Word32) = t.word from congrArg (Transaction.mk · t.operands) h
  refine BitVec.eq_of_getLsbD_eq (fun i hi => ?_)
  rw [getLsbD_append3, hop, ← hz]
  split_ifs with h24 h31
  · simp [h24]
  · simp [show i - 24 < 7 by omega, show 24 + (i - 24) = i by omega]
  · rw [show i = 31 by omega, hsb]; rfl

/-- A transaction that decodes is one the assembler writes: the word of an access, or a side-band operation with operands that
it takes. -/
theorem decode_ok_forms {t : Transaction} {i : Instr} (h : decode t = .ok i) :
    (∃ obs wr a v, t.word = portWord obs wr a v ∧ i = decodeAccess obs wr a v) ∨
    ∃ p, t = sbTransaction p t.operands ∧ decodeSb p t.operands = .ok i := by
  obtain ⟨hp, hz, hi⟩ | ⟨hsb, hz, p, hop, hd⟩ := decode_ok h
  · exact .inl ⟨_, _, _, _, (portWord_split hp hz).symm, hi⟩
  · exact .inr ⟨p, (sbTransaction_split hsb hz (sbOpAt_eq_some hop)).symm, hd⟩

/-! ### The PORT rows of the opcode table -/

theorem append3_and {a b c : Nat} (x x' : BitVec a) (y y' : BitVec b) (z z' : BitVec c) :
    (x ++ y ++ z) &&& (x' ++ y' ++ z') = (x &&& x') ++ (y &&& y') ++ (z &&& z') := by
  rw [BitVec.and_append, BitVec.and_append]

/-- The mask of a PORT row that looks at the bits `m` of the address: bits 31 to 26, bit `W`, and those (30_encoding.md R64, R67);
never bit `I` or the data byte. -/
def portMask (m : Addr) : Word32 := 0b111111_0_1#8 ++ m ++ 0x00#8

theorem portWord_and_portMask (obs wr : Bool) (a m : Addr) (v : Byte) :
    portWord obs wr a v &&& portMask m = portWord true wr (a &&& m) 0x00#8 := by
  have fields : portWord obs wr a v &&& portMask m =
      ((0#6 ++ BitVec.ofBool (!obs) ++ BitVec.ofBool wr) &&& 0b111111_0_1#8) ++ (a &&& m) ++ (v &&& 0x00#8) :=
    append3_and ..
  rw [fields, BitVec.and_zero]
  cases obs <;> cases wr <;> rfl

theorem portWord_inj {obs wr wr' : Bool} {a b : Addr} {v : Byte} :
    portWord obs wr a v = portWord obs wr' b v ↔ wr = wr' ∧ a = b := by
  refine ⟨fun h => ⟨?write, ?addr⟩, fun ⟨hw, ha⟩ => by rw [hw, ha]⟩
  case write => simpa using congrArg (fun t : Word32 => t[24]) h
  case addr => simpa using congrArg (fun t : Word32 => t.extractLsb' 8 16) h

/-- A pair of PORT rows of the opcode table, the read and the write of one set of addresses (30_encoding.md R67 to R70). -/
inductive PortRow where
  | ctrl (r : CtrlReg)
  | ctrlRaw
  | usb (r : UsbReg)
  | usbRaw
  | ext

/-- The bits of an address a row looks at. -/
def PortRow.mask : PortRow → Addr
  | .ctrl _ => 0xF#4 ++ 0#5 ++ 0x7F#7
  | .ctrlRaw => 0xF#4 ++ 0#5 ++ 0#7
  | .usb _ => 0xF#4 ++ 0#3 ++ 0x1FC#9
  | .usbRaw => 0xF#4 ++ 0#3 ++ 0#9
  | .ext => 0x0000#16

/-- What a row asks those bits to be. -/
def PortRow.addr : PortRow → Addr
  | .ctrl r => ctrlAddr (ctrlOffset r) 0#5
  | .ctrlRaw => ctrlAddr 0#7 0#5
  | .usb r => usbAddr (usbBase r) 0#3
  | .usbRaw => usbAddr 0#9 0#3
  | .ext => 0x0000#16

/-- The row's operation with every operand zero. -/
def PortRow.instr (wr : Bool) : PortRow → Instr
  | .ctrl r => if wr then ctrlWriteInstr true 0#5 0x00#8 r else ctrlReadInstr true 0#5 r
  | .ctrlRaw => if wr then .ctrlRawW true 0#5 0#7 0x00#8 else .ctrlRawR true 0#5 0#7
  | .usb r => if wr then usbWriteInstr true 0#3 0#2 0x00#8 r else usbReadInstr true 0#3 0#2 r
  | .usbRaw => if wr then .usbRawW true 0#3 0#9 0x00#8 else .usbRawR true 0#3 0#9
  | .ext => decodeExt true wr 0#4 0#12 0x00#8

/-- The row as it stands in the opcode table. -/
def PortRow.opcode (wr : Bool) (c : PortRow) : OpcodeRow :=
  ⟨(c.instr wr).mnemonic, portMask c.mask, portWord true wr c.addr 0x00#8⟩

/-- The row takes the accesses to `a`. -/
def PortRow.covers (a : Addr) (c : PortRow) : Bool := a &&& c.mask == c.addr

def ctrlPortRows : List PortRow := ctrlRegs.map .ctrl ++ [.ctrlRaw]

def usbPortRows : List PortRow := usbRegs.map .usb ++ [.usbRaw]

def portRows : List PortRow := ctrlPortRows ++ (usbPortRows ++ [.ext])

/-- The PORT rows of the frozen table are these, in this order. -/
theorem opcodeTable_portRows :
    ctrlRows ++ usbRows ++ extRows = portRows.flatMap (fun c => [c.opcode false, c.opcode true]) := by
  unfold portRows ctrlPortRows usbPortRows
  rfl

theorem opcode_matches (obs wr wr' : Bool) (a : Addr) (v : Byte) (c : PortRow) :
    (portWord obs wr a v &&& (c.opcode wr').mask == (c.opcode wr').pattern) = (wr == wr' && c.covers a) := by
  rw [PortRow.opcode, portWord_and_portMask, Bool.eq_iff_iff]
  simp [portWord_inj, PortRow.covers]

/-- The search through the words' masks is a search through the addresses the rows cover. -/
theorem find?_opcode (obs wr : Bool) (a : Addr) (v : Byte) (l : List PortRow) :
    (l.flatMap (fun c => [c.opcode false, c.opcode true])).find? (fun r => portWord obs wr a v &&& r.mask == r.pattern) =
      (l.find? (·.covers a)).map (·.opcode wr) := by
  induction l with
  | nil => rfl
  | cons c l ih =>
    simp only [List.flatMap_cons, List.cons_append, List.nil_append, List.find?_cons, opcode_matches, ih]
    cases wr <;> cases c.covers a <;> rfl

theorem firstRow_portWord (obs wr : Bool) {a : Addr} (v : Byte) {c : PortRow}
    (h : portRows.find? (·.covers a) = some c) : firstRow (portWord obs wr a v) = some (c.opcode wr) := by
  rw [firstRow, opcodeTable, List.find?_append, opcodeTable_portRows, find?_opcode, h]
  rfl

/-! ### The addresses a row covers -/

theorem ctrlAddr_and (off m : BitVec 7) (al : BitVec 5) :
    ctrlAddr off al &&& (0xF#4 ++ 0#5 ++ m : Addr) = ctrlAddr (off &&& m) 0#5 := by
  have fields : ctrlAddr off al &&& (0xF#4 ++ 0#5 ++ m : Addr) = (Config.ctrlRange &&& 0xF#4) ++ (al &&& 0#5) ++ (off &&& m) :=
    append3_and ..
  rw [fields, BitVec.and_zero]
  rfl

theorem usbAddr_and (off m : BitVec 9) (al : BitVec 3) :
    usbAddr off al &&& (0xF#4 ++ 0#3 ++ m : Addr) = usbAddr (off &&& m) 0#3 := by
  have fields : usbAddr off al &&& (0xF#4 ++ 0#3 ++ m : Addr) = (Config.usbRange &&& 0xF#4) ++ (al &&& 0#3) ++ (off &&& m) :=
    append3_and ..
  rw [fields, BitVec.and_zero]
  rfl

theorem ctrlAddr_inj {off off' : BitVec 7} {al : BitVec 5} : ctrlAddr off al = ctrlAddr off' al ↔ off = off' :=
  ⟨fun h => by rw [← ctrlAddr_low off al, h, ctrlAddr_low], fun h => by rw [h]⟩

theorem usbAddr_inj {off off' : BitVec 9} {al : BitVec 3} : usbAddr off al = usbAddr off' al ↔ off = off' :=
  ⟨fun h => by rw [← usbAddr_low off al, h, usbAddr_low], fun h => by rw [h]⟩

/-- A named control row covers its register's offset, whatever the bits the mirror mask drops (30_encoding.md R68). -/
theorem covers_ctrl (off : BitVec 7) (al : BitVec 5) (r : CtrlReg) :
    (PortRow.ctrl r).covers (ctrlAddr off al) = (ctrlOffset r == off) := by
  rw [PortRow.covers, PortRow.mask, ctrlAddr_and, Bool.eq_iff_iff, beq_iff_eq, beq_iff_eq, eq_comm,
    show off &&& 0x7F#7 = off from BitVec.and_allOnes]
  exact ctrlAddr_inj

/-- A named USB row covers the four lanes of its register, whatever the bits the mirror mask drops (30_encoding.md R69). -/
theorem covers_usb (off : BitVec 9) (al : BitVec 3) (r : UsbReg) :
    (PortRow.usb r).covers (usbAddr off al) = (usbBase r == off &&& 0x1FC#9) := by
  rw [PortRow.covers, PortRow.mask, usbAddr_and, Bool.eq_iff_iff, beq_iff_eq, beq_iff_eq, eq_comm]
  exact usbAddr_inj

theorem covers_ctrlRaw (off : BitVec 7) (al : BitVec 5) : PortRow.ctrlRaw.covers (ctrlAddr off al) = true := by
  rw [PortRow.covers, PortRow.mask, ctrlAddr_and, BitVec.and_zero]; rfl

theorem covers_usbRaw (off : BitVec 9) (al : BitVec 3) : PortRow.usbRaw.covers (usbAddr off al) = true := by
  rw [PortRow.covers, PortRow.mask, usbAddr_and, BitVec.and_zero]; rfl

theorem covers_ext (a : Addr) : PortRow.ext.covers a = true := by simp [PortRow.covers, PortRow.mask, PortRow.addr]

theorem rangeOf_and (a m : Addr) : rangeOf (a &&& m) = rangeOf a &&& rangeOf m := BitVec.extractLsb'_and

/-- A row that looks at the whole range selector covers addresses of its own range only. -/
theorem rangeOf_of_covers {a : Addr} {c : PortRow} (hm : rangeOf c.mask = 0xF#4) (h : c.covers a = true) :
    rangeOf a = rangeOf c.addr := by
  rw [← beq_iff_eq.mp h, rangeOf_and, hm]
  exact BitVec.and_allOnes.symm

theorem ctrlPortRows_range : ∀ c ∈ ctrlPortRows, rangeOf c.mask = 0xF#4 ∧ rangeOf c.addr = 0x0#4 := by
  unfold ctrlPortRows; decide

theorem usbPortRows_range : ∀ c ∈ usbPortRows, rangeOf c.mask = 0xF#4 ∧ rangeOf c.addr = 0x3#4 := by
  unfold usbPortRows; decide

theorem find?_other_range {a : Addr} {k : RangeNo} {l : List PortRow}
    (hl : ∀ c ∈ l, rangeOf c.mask = 0xF#4 ∧ rangeOf c.addr = k) (ha : rangeOf a ≠ k) : l.find? (·.covers a) = none := by
  refine List.find?_eq_none.mpr fun c hc hcov => ha ?_
  obtain ⟨hmask, haddr⟩ := hl c hc
  exact (rangeOf_of_covers hmask hcov).trans haddr

/-- Where a named row covers an address exactly if its register satisfies `q`, and the RAW row after them covers it anyway, the
search is the search of the register map. -/
theorem find?_named_or_raw {ρ : Type} {a : Addr} {regs : List ρ} {named : ρ → PortRow} {raw : PortRow} {q : ρ → Bool}
    (hnamed : ∀ r, (named r).covers a = q r) (hraw : raw.covers a = true) :
    (regs.map named ++ [raw]).find? (·.covers a) = some ((regs.find? q).elim raw named) := by
  obtain rfl : (fun r => (named r).covers a) = q := funext hnamed
  rw [List.find?_append, List.find?_map, List.find?_singleton, if_pos hraw, Function.comp_def]
  cases regs.find? (fun r => (named r).covers a) <;> rfl

/-! ### The row of an access -/

def ctrlRowAt (off : BitVec 7) : PortRow := (ctrlRegAt off).elim .ctrlRaw .ctrl

def usbRowAt (off : BitVec 9) : PortRow := (usbRegAt off).elim .usbRaw .usb

theorem find?_ctrlPortRows (off : BitVec 7) (al : BitVec 5) :
    ctrlPortRows.find? (·.covers (ctrlAddr off al)) = some (ctrlRowAt off) :=
  find?_named_or_raw (covers_ctrl off al) (covers_ctrlRaw off al)

theorem find?_usbPortRows (off : BitVec 9) (al : BitVec 3) :
    usbPortRows.find? (·.covers (usbAddr off al)) = some (usbRowAt off) :=
  find?_named_or_raw (covers_usb off al) (covers_usbRaw off al)

theorem mnemonic_decodeCtrl (obs wr : Bool) (al : BitVec 5) (off : BitVec 7) (v : Byte) :
    (decodeCtrl obs wr al off v).mnemonic = ((ctrlRowAt off).instr wr).mnemonic := by
  unfold decodeCtrl ctrlRowAt
  cases ctrlRegAt off with
  | none => cases wr <;> rfl
  | some r => cases wr <;> cases r <;> rfl

theorem mnemonic_decodeUsb (obs wr : Bool) (al : BitVec 3) (off : BitVec 9) (v : Byte) :
    (decodeUsb obs wr al off v).mnemonic = ((usbRowAt off).instr wr).mnemonic := by
  unfold decodeUsb usbRowAt
  cases usbRegAt off with
  | none => cases wr <;> rfl
  | some r => cases wr <;> cases r <;> rfl

theorem mnemonic_decodeExt (obs wr : Bool) (k : RangeNo) (l : Offset) (v : Byte) :
    (decodeExt obs wr k l v).mnemonic = (PortRow.ext.instr wr).mnemonic := by cases wr <;> rfl

/-- Every address has a row: the first that covers it, whose mnemonics the accesses to it bear. One case for each kind of range. -/
theorem exists_portRow (a : Addr) : ∃ c, portRows.find? (·.covers a) = some c ∧
    ∀ obs wr v, (decodeAccess obs wr a v).mnemonic = (c.instr wr).mnemonic := by
  rw [portRows, List.find?_append, List.find?_append]
  by_cases h0 : rangeOf a = 0x0#4
  · have found := find?_ctrlPortRows (a.extractLsb' 0 7) (a.extractLsb' 7 5)
    rw [ctrlAddr_split h0] at found
    rw [found, Option.some_or]
    exact ⟨_, rfl, fun obs wr v => by rw [decodeAccess_ctrl h0, mnemonic_decodeCtrl]⟩
  rw [find?_other_range ctrlPortRows_range h0, Option.none_or]
  by_cases h3 : rangeOf a = 0x3#4
  · have found := find?_usbPortRows (a.extractLsb' 0 9) (a.extractLsb' 9 3)
    rw [usbAddr_split h3] at found
    rw [found, Option.some_or]
    exact ⟨_, rfl, fun obs wr v => by rw [decodeAccess_usb h3, mnemonic_decodeUsb]⟩
  · rw [find?_other_range usbPortRows_range h3, Option.none_or, List.find?_singleton, if_pos (covers_ext a)]
    exact ⟨_, rfl, fun obs wr v => by rw [decodeAccess_ext h0 h3, mnemonic_decodeExt]⟩

theorem firstRow_mnemonic_portWord (obs wr : Bool) (a : Addr) (v : Byte) :
    (firstRow (portWord obs wr a v)).map (·.mnemonic) = some (decodeAccess obs wr a v).mnemonic := by
  obtain ⟨c, hc, hm⟩ := exists_portRow a
  rw [firstRow_portWord obs wr v hc, hm]
  rfl

/-- Bit `I` does not change the row of an access (30_encoding.md R67). -/
theorem mnemonic_decodeAccess_obs (obs obs' wr : Bool) (a : Addr) (v : Byte) :
    (decodeAccess obs wr a v).mnemonic = (decodeAccess obs' wr a v).mnemonic := by
  obtain ⟨c, -, hm⟩ := exists_portRow a
  rw [hm, hm]

/-! ### The SB rows of the opcode table -/

/-- The row of a side-band operation as it stands in the opcode table: its word, every bit of it. -/
def sbRow (p : SbOp) : OpcodeRow := ⟨sbMnemonic p, 0xFFFFFFFF#32, (sbTransaction p []).word⟩

theorem sbRows_eq : sbRows = sbOps.map sbRow := rfl

theorem sbRow_matches (p q : SbOp) (l : List Operand) :
    ((sbTransaction p l).word &&& (sbRow q).mask == (sbRow q).pattern) = (sbCode q == sbCode p) := by
  have masked : (sbTransaction p l).word &&& (sbRow q).mask = (sbTransaction p []).word := BitVec.and_allOnes
  have op : ∀ r, (sbTransaction r []).word.extractLsb' 24 7 = sbCode r := fun r => by cases r <;> rfl
  rw [masked, Bool.eq_iff_iff, beq_iff_eq, beq_iff_eq]
  constructor <;> intro h
  · rw [← op q, ← op p, h]; rfl
  · exact congrArg (1#1 ++ · ++ 0#24) h.symm

theorem portRows_bit31 : ∀ r ∈ ctrlRows ++ usbRows ++ extRows, r.mask.getLsbD 31 = true ∧ r.pattern.getLsbD 31 = false := by
  decide

/-- Every PORT row asks for bit 31 clear (30_encoding.md R63). -/
theorem find?_portRows_sb {t : Word32} (hsb : t.getLsbD 31 = true) :
    (ctrlRows ++ usbRows ++ extRows).find? (fun r => t &&& r.mask == r.pattern) = none := by
  refine List.find?_eq_none.mpr fun r hr hm => ?_
  obtain ⟨hmask, hpattern⟩ := portRows_bit31 r hr
  rw [← beq_iff_eq.mp hm, BitVec.getLsbD_and, hsb, hmask] at hpattern
  cases hpattern

theorem firstRow_sbTransaction (p : SbOp) (l : List Operand) : firstRow (sbTransaction p l).word = some (sbRow p) := by
  have hsb : (sbTransaction p l).word.getLsbD 31 = true := (sbWord_fields p).1
  have named : sbOps.find? (fun q => (sbTransaction p l).word &&& (sbRow q).mask == (sbRow q).pattern) = some p :=
    (congrArg sbOps.find? (funext (sbRow_matches p · l))).trans (sbOpAt_sbCode p)
  rw [firstRow, opcodeTable, List.find?_append, find?_portRows_sb hsb, Option.none_or, sbRows_eq, List.find?_map]
  exact congrArg (Option.map sbRow) named

/-- Settles O3: a transaction that decodes is the word of an access or of a side-band operation, and the table's search finds the
row of either. -/
theorem decodeIsFirstTableRow : Obligations.DecodeIsFirstTableRow := by
  unfold Obligations.DecodeIsFirstTableRow
  refine ⟨fun t i h => ?firstRow, fun t hp hz => ⟨_, decode_port hp hz⟩, fun obs obs' wr a v i j hi hj => ?sameRow⟩
  case firstRow =>
    obtain ⟨obs, wr, a, v, hw, rfl⟩ | ⟨p, ht, hd⟩ := decode_ok_forms h
    · rw [hw]; exact firstRow_mnemonic_portWord obs wr a v
    · rw [ht, firstRow_sbTransaction, (decodeSb_ok hd).2]; rfl
  case sameRow =>
    rw [decode_portTransaction] at hi hj
    cases hi
    cases hj
    exact mnemonic_decodeAccess_obs obs obs' wr a v

end Sys2Proof.Machine
end

section
/-! PROOFS. The family 40_dispatcher, first part: what the device behind an address does with a read and with a write, as data, so
that two accesses can be compared (40_dispatcher.md R77 to R84, R87). -/

namespace Sys2Proof.Machine

/-! ### Mirrored addresses -/

/-- The low bits of a control address are those of the offset its device observes. -/
theorem ctrl_low_eq {a : Addr} (h : rangeOf a = 0x0#4) : a.extractLsb' 0 7 = (offsetOf a).setWidth 7 := by
  rw [← ctrlAddr_split h, offsetOf_ctrlAddr, ctrlAddr_low, BitVec.setWidth_setWidth_of_le _ (by omega), BitVec.setWidth_eq]

theorem usb_low_eq {a : Addr} (h : rangeOf a = 0x3#4) : a.extractLsb' 0 9 = (offsetOf a).setWidth 9 := by
  rw [← usbAddr_split h, offsetOf_usbAddr, usbAddr_low, BitVec.setWidth_setWidth_of_le _ (by omega), BitVec.setWidth_eq]

/-- Addresses that agree under the mirror masks of their ranges resolve to one offset (40_dispatcher.md R77). -/
theorem offsetOf_eq_of_mirrored {a b : Addr}
    (hm : a &&& (mirror (rangeOf a)).setWidth 16 = b &&& (mirror (rangeOf b)).setWidth 16) : offsetOf b = offsetOf a := by
  have low : ∀ x : Addr, offsetOf x = (x &&& (mirror (rangeOf x)).setWidth 16).extractLsb' 0 12 := by
    intro x
    refine BitVec.eq_of_getLsbD_eq (fun i hi => ?_)
    simp [offsetOf, hi, show i < 16 by omega]
  rw [low b, low a, hm]

/-! ### What a device does with a read -/

/-- The device's part of a read: a value of the two records, the byte at the endpoint-0 cursor, or a forwarded access. -/
inductive DeviceRead where
  | value (val : CtrlState → UsbState → Byte)
  | cursor
  | forwards (k : RangeNo) (off : Offset)

/-- What it answers an RD (`obs`) or PEEK (not `obs`) with. -/
def DeviceRead.answer (obs : Bool) (s : State) : DeviceRead → ReadAnswer
  | .value val => ⟨val s.ctrl s.usb, s, []⟩
  | .cursor => ⟨s.usb.cxByte, if obs then s.setUsb s.usb.cxAdvance else s, []⟩
  | .forwards k off => ⟨Config.freeByte s.draws, s.drawn, [.extRead k off obs]⟩

/-- Whether range `k` has such a read: only the USB range has the data port. -/
def DeviceRead.InRange (k : RangeNo) : DeviceRead → Prop
  | .cursor => k = 0x3#4
  | .value _ => True
  | .forwards _ _ => True

theorem DeviceRead.inRange_usb (r : DeviceRead) : r.InRange 0x3#4 := by
  cases r with
  | cursor => rfl
  | value | forwards => trivial

/-- A read of the USB range, at any alias of its offset. -/
theorem usb_device_read (off : BitVec 9) : ∃ r : DeviceRead, ∀ (obs : Bool) (al : BitVec 3) v s,
    exec (decodeUsb obs false al off v) s = portRead obs (usbAddr off al) (fun _ s => r.answer obs s) s := by
  obtain ⟨val, h⟩ | ⟨-, h⟩ := usb_read_form off
  · exact ⟨.value val, h⟩
  · exact ⟨.cursor, h⟩

/-- A step with an RD or PEEK waiting is a read by the device of the address's range, the same read for every address that
resolves to the same range and offset. -/
theorem step_device_read (a : Addr) : ∃ r : DeviceRead, r.InRange (rangeOf a) ∧
    ∀ b, rangeOf b = rangeOf a → offsetOf b = offsetOf a → ∀ obs v s,
      step (s.enqueue (portTransaction obs false b v)) = portRead obs b (fun _ s => r.answer obs s) s := by
  by_cases h0 : rangeOf a = 0x0#4
  · obtain ⟨val, h⟩ := ctrl_read_form ((offsetOf a).setWidth 7)
    refine ⟨.value val, trivial, fun b hb ho obs v s => ?_⟩
    have row := h obs (b.extractLsb' 7 5) v s
    rwa [← ho, ← ctrl_low_eq (hb.trans h0), ctrlAddr_split (hb.trans h0), ← decodeAccess_ctrl (hb.trans h0),
      ← step_port] at row
  by_cases h3 : rangeOf a = 0x3#4
  · obtain ⟨r, h⟩ := usb_device_read ((offsetOf a).setWidth 9)
    refine ⟨r, h3 ▸ r.inRange_usb, fun b hb ho obs v s => ?_⟩
    have row := h obs (b.extractLsb' 9 3) v s
    rwa [← ho, ← usb_low_eq (hb.trans h3), usbAddr_split (hb.trans h3), ← decodeAccess_usb (hb.trans h3),
      ← step_port] at row
  · refine ⟨.forwards (rangeOf a) (offsetOf a), trivial, fun b hb ho obs v s => ?_⟩
    rw [step_port, decodeAccess_ext (hb ▸ h0) (hb ▸ h3)]
    show execExtR _ _ _ _ = _
    rw [execExtR, addr_split]
    exact portRead_congr (by rw [ho, hb]; rfl)

/-! ### What a device does with a write -/

/-- What a control write emits of its own: nothing, a clock rate, or a reset request. -/
inductive CtrlEmission where
  | silent
  | clock (rate : Nat)
  | reset

/-- The events of a WR (`obs`) or POKE (not `obs`) of address `a` that emits so. -/
def CtrlEmission.events (obs : Bool) (a : Addr) (d : DebugConfig) : CtrlEmission → List Event
  | .silent => []
  | .clock rate => [.setClock rate]
  | .reset => raiseReset obs a d

/-- The device's part of a write: an update of one of the two records, or a forwarded access. -/
inductive DeviceWrite where
  | ctrl (f : CtrlState → CtrlState) (e : CtrlEmission)
  | usb (f : UsbState → UsbState)
  | forwards (k : RangeNo) (off : Offset) (v : Byte)

/-- What it answers a WR (`obs`) or POKE (not `obs`) of address `a` with. -/
def DeviceWrite.answer (obs : Bool) (a : Addr) (s : State) : DeviceWrite → WriteAnswer
  | .ctrl f e => ⟨s.setCtrl (f s.ctrl), e.events obs a s.dbg⟩
  | .usb f => ⟨s.setUsb (f s.usb), []⟩
  | .forwards k off v => ⟨s, [.extWrite k off v obs]⟩

/-- Whether it can be the device's part of a write of `v` to range `k`: each record has its range, and the byte forwarded is the
byte written. -/
def DeviceWrite.InRange (k : RangeNo) (v : Byte) : DeviceWrite → Prop
  | .ctrl _ _ => k = 0x0#4
  | .usb _ => k = 0x3#4
  | .forwards _ _ v' => v' = v

/-- What a write of `v` to a named control register emits (41_control.md R98, R100, R113). -/
def ctrlEmission (v : Byte) : CtrlReg → CtrlEmission
  | .reset => if v &&& Config.resetTriggerMask ≠ 0x00#8 then .reset else .silent
  | .shutdown => if v = Config.shutdownCode then .reset else .silent
  | .speed => .clock (Config.clockRate (v.extractLsb' 0 2))
  | _ => .silent

theorem ctrlEmission_events (obs : Bool) (al : BitVec 5) (v : Byte) (r : CtrlReg) (d : DebugConfig) :
    (ctrlEmission v r).events obs (ctrlRegAddr r al) d = ctrlEmitted obs al v r d := by
  cases r with
  | reset => dsimp only [ctrlEmission, ctrlEmitted]; split <;> rfl
  | shutdown => dsimp only [ctrlEmission, ctrlEmitted]; split <;> rfl
  | _ => rfl

/-- A write of the control range, at any alias of its offset. -/
theorem ctrl_device_write (off : BitVec 7) (v : Byte) : ∃ f e, ∀ (obs : Bool) (al : BitVec 5) s,
    exec (decodeCtrl obs true al off v) s =
      portWrite obs (ctrlAddr off al) (fun _ s => (DeviceWrite.ctrl f e).answer obs (ctrlAddr off al) s) s := by
  unfold decodeCtrl
  cases hr : ctrlRegAt off with
  | none => exact ⟨fun c => c.setPort off.toNat v, .silent, fun obs al => writesCtrl_raw obs al off v⟩
  | some r =>
    obtain rfl := ctrlRegAt_eq_some hr
    refine ⟨ctrlUpdated v r, ctrlEmission v r, fun obs al s => (writesCtrl_named obs al v r s).trans (portWrite_congr ?_)⟩
    exact congrArg (WriteAnswer.mk _) (ctrlEmission_events obs al v r s.dbg).symm

/-- A step with a WR or POKE waiting is a write by the device of the address's range, the same write for every address that
resolves to the same range and offset. -/
theorem step_device_write (a : Addr) (v : Byte) : ∃ w : DeviceWrite, w.InRange (rangeOf a) v ∧
    ∀ b, rangeOf b = rangeOf a → offsetOf b = offsetOf a → ∀ obs s,
      step (s.enqueue (portTransaction obs true b v)) = portWrite obs b (fun _ s => w.answer obs b s) s := by
  by_cases h0 : rangeOf a = 0x0#4
  · obtain ⟨f, e, h⟩ := ctrl_device_write ((offsetOf a).setWidth 7) v
    refine ⟨.ctrl f e, h0, fun b hb ho obs s => ?_⟩
    have row := h obs (b.extractLsb' 7 5) s
    rwa [← ho, ← ctrl_low_eq (hb.trans h0), ctrlAddr_split (hb.trans h0), ← decodeAccess_ctrl (hb.trans h0),
      ← step_port] at row
  by_cases h3 : rangeOf a = 0x3#4
  · obtain ⟨f, h⟩ := usb_write_form ((offsetOf a).setWidth 9) v
    refine ⟨.usb f, h3, fun b hb ho obs s => ?_⟩
    have row := h obs (b.extractLsb' 9 3) s
    rwa [← ho, ← usb_low_eq (hb.trans h3), usbAddr_split (hb.trans h3), ← decodeAccess_usb (hb.trans h3),
      ← step_port] at row
  · refine ⟨.forwards (rangeOf a) (offsetOf a) v, rfl, fun b hb ho obs s => ?_⟩
    rw [step_port, decodeAccess_ext (hb ▸ h0) (hb ▸ h3)]
    show execExtW _ _ _ _ _ = _
    rw [execExtW, addr_split]
    exact portWrite_congr (by rw [ho, hb]; rfl)

end Sys2Proof.Machine
end

section
/-! PROOFS. The family 40_dispatcher, second part: the statements about accesses, each from what the device behind the address does
and what the access routine makes of it (40_dispatcher.md R77 to R92). -/

namespace Sys2Proof.Machine

/-! ### The access routine -/

/-- A WR opens the debugger first exactly at a watched address of an attached debugger (40_dispatcher.md R81, R90). -/
theorem writeWatch_observable (a : Addr) (d : DebugConfig) :
    writeWatch true a d =
      if d.attached = true ∧ a ∈ d.watchWrite then [.debugOpen Config.dbgReasonPortWrite a] else [] := by
  simp [writeWatch, AddrMap.has]

theorem portRead_unbound {obs : Bool} {a : Addr} {dev : Offset → State → ReadAnswer} {s : State} (hi : s.initialised = true)
    (hb : s.handler (rangeOf a) = .unbound) : portRead obs a dev s = .fault (.unboundRange (rangeOf a)) := by
  rw [portRead, if_pos hi, resolve_eq_error hb]

theorem portWrite_unbound {obs : Bool} {a : Addr} {dev : Offset → State → WriteAnswer} {s : State}
    (hi : s.initialised = true) (hf : frozen obs a s.dbg = false) (hb : s.handler (rangeOf a) = .unbound) :
    portWrite obs a dev s = .fault (.unboundRange (rangeOf a)) := by
  rw [portWrite, if_pos hi, if_neg (by simp [hf]), resolve_eq_error hb]

/-- Settles O11: the freeze is consulted before the range and the device. -/
theorem frozenWriteHasNoEffect : Obligations.FrozenWriteHasNoEffect := by
  unfold Obligations.FrozenWriteHasNoEffect
  intro s a v hi hatt hfreeze
  obtain ⟨w, -, hw⟩ := step_device_write a v
  have hf : frozen true a s.dbg = true := by simp [frozen, AddrMap.has, hatt, hfreeze]
  calc step (s.enqueue (asmWr a v))
      = .next (s.finish (writeWatch true a s.dbg) .none) := (hw a rfl rfl true s).trans (portWrite_frozen hi hf)
    _ = _ := by rw [writeWatch_observable]; simp only [hatt, true_and]; rfl

/-- Settles O16: an access faults at the resolution, which a write reaches where it is not frozen. -/
theorem unboundRangeFaults : Obligations.UnboundRangeFaults := by
  unfold Obligations.UnboundRangeFaults
  intro s obs wr a v hi hb hf
  cases wr with
  | false =>
    obtain ⟨r, -, hr⟩ := step_device_read a
    exact (hr a rfl rfl obs v s).trans (portRead_unbound hi hb)
  | true =>
    obtain ⟨w, -, hw⟩ := step_device_write a v
    exact (hw a rfl rfl obs s).trans (portWrite_unbound hi (hf rfl) hb)

/-! ### The external ranges -/

/-- Settles O19: the device of an external range forwards the access at the masked offset. -/
theorem externalAccessForwards : Obligations.ExternalAccessForwards := by
  unfold Obligations.ExternalAccessForwards
  rintro s obs k l v ⟨hi, hbound⟩ - -
  refine ⟨⟨Config.freeByte s.draws, ?read⟩, fun hf => ?write⟩
  case read =>
    show execExtR obs k l s = _
    rw [execExtR, portRead_eq_next hi (hbound _), offsetOf_extAddr]
    rfl
  case write =>
    show execExtW obs k l v s = _
    rw [execExtW, portWrite_eq_next hi hf (hbound _), offsetOf_extAddr]
    rfl

/-! ### What an access leaves unchanged -/

/-- What a port access of range `k` may change: the device of the range, and the model's own answer and draw counter. -/
structure TouchesOnly (k : RangeNo) (s t : State) : Prop where
  ctrl : k ≠ 0x0#4 → t.ctrl = s.ctrl
  usb : k ≠ 0x3#4 → t.usb = s.usb
  initialised : t.initialised = s.initialised
  bus : t.bus = s.bus
  dbg : t.dbg = s.dbg
  inputs : t.inputs = s.inputs

theorem TouchesOnly.refl (k : RangeNo) (s : State) : TouchesOnly k s s :=
  ⟨fun _ => rfl, fun _ => rfl, rfl, rfl, rfl, rfl⟩

theorem TouchesOnly.finish {k : RangeNo} {s t : State} (h : TouchesOnly k s t) (e : List Event) (r : Result) :
    TouchesOnly k s (t.finish e r) := { h with }

theorem touchesOnly_setUsb (s : State) (u : UsbState) : TouchesOnly 0x3#4 s (s.setUsb u) :=
  { TouchesOnly.refl _ s with usb := fun h => absurd rfl h }

theorem touchesOnly_setCtrl (s : State) (c : CtrlState) : TouchesOnly 0x0#4 s (s.setCtrl c) :=
  { TouchesOnly.refl _ s with ctrl := fun h => absurd rfl h }

theorem DeviceRead.touchesOnly {k : RangeNo} {r : DeviceRead} (hr : r.InRange k) (obs : Bool) (s : State) :
    TouchesOnly k s (r.answer obs s).state := by
  cases r with
  | value val => exact .refl k s
  | cursor =>
    obtain rfl : k = 0x3#4 := hr
    cases obs with
    | false => exact .refl _ s
    | true => exact touchesOnly_setUsb s _
  | forwards j off => exact { TouchesOnly.refl k s with }

theorem DeviceWrite.touchesOnly {k : RangeNo} {v : Byte} {w : DeviceWrite} (hw : w.InRange k v) (obs : Bool) (a : Addr)
    (s : State) : TouchesOnly k s (w.answer obs a s).state := by
  cases w with
  | ctrl f e => obtain rfl : k = 0x0#4 := hw; exact touchesOnly_setCtrl s _
  | usb f => obtain rfl : k = 0x3#4 := hw; exact touchesOnly_setUsb s _
  | forwards j off v' => exact .refl k s

theorem step_port_touchesOnly {s t : State} {obs wr : Bool} {a : Addr} {v : Byte}
    (h : step (s.enqueue (portTransaction obs wr a v)) = .next t) : TouchesOnly (rangeOf a) s t := by
  cases wr with
  | false =>
    obtain ⟨r, hrange, hr⟩ := step_device_read a
    rw [hr a rfl rfl] at h
    obtain ⟨-, -, rfl⟩ := portRead_next h
    exact (DeviceRead.touchesOnly hrange obs s).finish _ _
  | true =>
    obtain ⟨w, hrange, hw⟩ := step_device_write a v
    rw [hw a rfl rfl] at h
    obtain ⟨-, ⟨-, rfl⟩ | ⟨-, -, rfl⟩⟩ := portWrite_next h
    · exact (TouchesOnly.refl _ s).finish _ _
    · exact (DeviceWrite.touchesOnly hrange obs a s).finish _ _

/-- Settles O18, from the device of the range. -/
theorem accessTouchesOneDevice : Obligations.AccessTouchesOneDevice := by
  unfold Obligations.AccessTouchesOneDevice
  intro s t obs wr a v h
  obtain ⟨hctrl, husb, hinit, hbus, hdbg, hinputs⟩ := step_port_touchesOnly h
  exact ⟨hctrl, husb, hinit, hbus, hdbg, hinputs⟩

/-! ### PEEK -/

/-- Settles O8, by the three kinds of read: of the two that are no value of the records, an introspective one leaves the cursor
where it is or only draws a free value. -/
theorem peekIsPure : Obligations.PeekIsPure := by
  unfold Obligations.PeekIsPure
  intro s a hs
  obtain ⟨val, hstep⟩ | ⟨-, hstep⟩ | ⟨-, hstep⟩ := step_read_cases a
  · exact ⟨_, hstep false 0x00#8 s hs, rfl, nofun⟩
  · exact ⟨_, hstep false 0x00#8 s hs, rfl, nofun⟩
  · refine ⟨_, hstep false 0x00#8 s hs, rfl, fun e he => ⟨rangeOf a, offsetOf a, ?_⟩⟩
    exact List.mem_singleton.mp he

/-! ### The same access under two addresses or from two agents -/

theorem sameEffect_finish (s : State) (e e' : List Event) (r : Result) :
    SameEffect (.next (s.finish e r)) (.next (s.finish e' r)) := ⟨rfl, rfl, rfl, rfl, rfl, rfl, rfl, rfl⟩

/-- One device read at two addresses of one range: only the read watch may differ. -/
theorem portRead_mirrored {obs : Bool} {a b : Addr} {dev : State → ReadAnswer} (s : State) (hr : rangeOf b = rangeOf a) :
    SameEffect (portRead obs a (fun _ => dev) s) (portRead obs b (fun _ => dev) s) ∧
      blockEvents (portRead obs a (fun _ => dev) s) = blockEvents (portRead obs b (fun _ => dev) s) := by
  obtain ⟨hi, e⟩ | ⟨hi, hb, e⟩ | ⟨hi, hb, e⟩ := portRead_cases obs a (fun _ => dev) s
  · rw [e, portRead_uninitialised hi]; exact ⟨rfl, rfl⟩
  · rw [e, portRead_unbound hi (hr ▸ hb), hr]; exact ⟨rfl, rfl⟩
  · rw [e, portRead_eq_next hi (hr ▸ hb)]
    refine ⟨sameEffect_finish _ _ _ _, ?_⟩
    simp only [blockEvents, State.finish_out, List.filter_append, readWatch_blockEvents]

/-- Two writes to one range that leave the same state of the device have the same effect where the freeze treats them alike,
and the same events but for the debugger's where their devices have. -/
theorem portWrite_sameEffect {obs obs' : Bool} {a b : Addr} {dev dev' : State → WriteAnswer} {s : State}
    (hr : rangeOf b = rangeOf a) (hf : frozen obs a s.dbg = frozen obs' b s.dbg) (hd : (dev s).state = (dev' s).state) :
    SameEffect (portWrite obs a (fun _ => dev) s) (portWrite obs' b (fun _ => dev') s) ∧
      ((dev s).events.filter (fun e => !e.isDebugOpen) = (dev' s).events.filter (fun e => !e.isDebugOpen) →
        blockEvents (portWrite obs a (fun _ => dev) s) = blockEvents (portWrite obs' b (fun _ => dev') s)) := by
  obtain ⟨hi, e⟩ | ⟨hi, ha, e⟩ | ⟨hi, ha, hb, e⟩ | ⟨hi, ha, hb, e⟩ := portWrite_cases obs a (fun _ => dev) s
  · rw [e, portWrite_uninitialised hi]; exact ⟨rfl, fun _ => rfl⟩
  · rw [e, portWrite_frozen hi (hf ▸ ha)]
    refine ⟨sameEffect_finish _ _ _ _, fun _ => ?_⟩
    simp only [blockEvents, State.finish_out, writeWatch_blockEvents]
  · rw [e, portWrite_unbound hi (hf ▸ ha) (hr ▸ hb), hr]; exact ⟨rfl, fun _ => rfl⟩
  · rw [e, portWrite_eq_next hi (hf ▸ ha) (hr ▸ hb), hd]
    refine ⟨sameEffect_finish _ _ _ _, fun he => ?_⟩
    simp only [blockEvents, State.finish_out, List.filter_append, writeWatch_blockEvents, he]

/-- A device's write leaves the same state whoever writes and under whatever address. -/
theorem DeviceWrite.state_congr (w : DeviceWrite) (obs obs' : Bool) (a b : Addr) (s : State) :
    (w.answer obs a s).state = (w.answer obs' b s).state := by cases w <;> rfl

/-- But for the opening of the debugger, a device's write emits the same under whatever address. -/
theorem DeviceWrite.blockEvents_congr (w : DeviceWrite) (obs : Bool) (a b : Addr) (s : State) :
    (w.answer obs a s).events.filter (fun e => !e.isDebugOpen) =
      (w.answer obs b s).events.filter (fun e => !e.isDebugOpen) := by
  cases w with
  | ctrl f e =>
    cases e with
    | reset => exact (raiseReset_blockEvents obs a s.dbg).trans (raiseReset_blockEvents obs b s.dbg).symm
    | silent | clock => rfl
  | usb | forwards => rfl

/-- Settles O7: mirrored addresses resolve to one offset, so one device access stands behind both. -/
theorem mirroringLaw : Obligations.MirroringLaw := by
  unfold Obligations.MirroringLaw
  intro s obs wr a b v hr hm hf
  have ho := offsetOf_eq_of_mirrored hm
  cases wr with
  | false =>
    obtain ⟨r, -, hstep⟩ := step_device_read a
    rw [hstep a rfl rfl, hstep b hr.symm ho]
    exact portRead_mirrored s hr.symm
  | true =>
    obtain ⟨w, -, hstep⟩ := step_device_write a v
    rw [hstep a rfl rfl, hstep b hr.symm ho]
    obtain ⟨heffect, hevents⟩ := portWrite_sameEffect (dev := (w.answer obs a ·))
      (dev' := (w.answer obs b ·)) hr.symm (hf rfl) (w.state_congr obs obs a b s)
    exact ⟨heffect, hevents (w.blockEvents_congr obs a b s)⟩

/-! ### POKE -/

/-- What a device's write emits of its own for a POKE: a clock rate or the record of a forwarded write (40_dispatcher.md R83). -/
theorem DeviceWrite.introspective_events {k : RangeNo} {v : Byte} {w : DeviceWrite} (hw : w.InRange k v) {a : Addr}
    {s : State} {e : Event} (h : e ∈ (w.answer false a s).events) :
    (∃ r, e = .setClock r) ∨ ∃ k off, e = .extWrite k off v false := by
  cases w with
  | ctrl f emission =>
    cases emission with
    | clock rate => exact .inl ⟨rate, List.mem_singleton.mp h⟩
    | silent | reset => exact absurd h List.not_mem_nil
  | usb f => exact absurd h List.not_mem_nil
  | forwards j off v' =>
    obtain rfl : v' = v := hw
    exact .inr ⟨j, off, List.mem_singleton.mp h⟩

/-- Settles O9: a POKE is never frozen, so it always reaches the device of a ready block, as a WR that is not frozen does. -/
theorem pokeWritesLikeWrite : Obligations.PokeWritesLikeWrite := by
  unfold Obligations.PokeWritesLikeWrite
  rintro s a v ⟨hi, hbound⟩
  obtain ⟨w, hrange, hstep⟩ := step_device_write a v
  have poke : step (s.enqueue (asmPoke a v)) = portWrite false a (fun _ s => w.answer false a s) s := hstep a rfl rfl false s
  have wr : step (s.enqueue (asmWr a v)) = portWrite true a (fun _ s => w.answer true a s) s := hstep a rfl rfl true s
  refine ⟨⟨_, poke.trans (portWrite_eq_next hi rfl (hbound _)), fun e he => ?_⟩, fun hf => ?_⟩
  · exact DeviceWrite.introspective_events hrange he
  · have alike : frozen false a s.dbg = frozen true a s.dbg := hf.symm
    rw [poke, wr]
    exact (portWrite_sameEffect (dev := (w.answer false a ·)) (dev' := (w.answer true a ·)) rfl alike
      (w.state_congr false true a a s)).1

/-! ### The order of an access's events -/

theorem DeviceRead.no_debugOpen (r : DeviceRead) (obs : Bool) (s : State) :
    (r.answer obs s).events.filter Event.isDebugOpen = [] := by cases r <;> rfl

/-- A reset request opens the debugger at most once (41_control.md R97). -/
theorem raiseReset_debugOpen (obs : Bool) (a : Addr) (d : DebugConfig) :
    ((raiseReset obs a d).filter Event.isDebugOpen).length ≤ 1 := by
  cases obs with
  | false => exact Nat.zero_le 1
  | true => by_cases h : (d.attached && d.openOnReset) = true <;> simp [raiseReset, h, Event.isDebugOpen, List.filter_cons]

theorem DeviceWrite.debugOpen_le_one (w : DeviceWrite) (obs : Bool) (a : Addr) (s : State) :
    ((w.answer obs a s).events.filter Event.isDebugOpen).length ≤ 1 := by
  cases w with
  | ctrl f e =>
    cases e with
    | reset => exact raiseReset_debugOpen obs a s.dbg
    | silent | clock => exact Nat.zero_le 1
  | usb | forwards => exact Nat.zero_le 1

/-- Settles O12: the device's own events are those of its answer, and none where the write is frozen. -/
theorem accessEventOrder : Obligations.AccessEventOrder := by
  unfold Obligations.AccessEventOrder
  intro s t a v
  rw [← writeWatch_observable, ← readWatch_observable]
  refine ⟨fun h => ?write, fun h => ?read⟩
  case write =>
    obtain ⟨w, -, hstep⟩ := step_device_write a v
    obtain ⟨-, ⟨-, rfl⟩ | ⟨-, -, rfl⟩⟩ := portWrite_next ((hstep a rfl rfl true s).symm.trans h)
    · exact ⟨[], (List.append_nil _).symm, Nat.zero_le 1⟩
    · exact ⟨_, rfl, w.debugOpen_le_one true a s⟩
  case read =>
    obtain ⟨r, -, hstep⟩ := step_device_read a
    obtain ⟨-, -, rfl⟩ := portRead_next ((hstep a rfl rfl true 0x00#8 s).symm.trans h)
    exact ⟨_, rfl, r.no_debugOpen true s⟩

/-! ### A detached debugger -/

theorem raiseReset_detached {obs : Bool} {a : Addr} {d : DebugConfig} (h : d.attached = false) :
    raiseReset obs a d = if obs then [.resetRequest] else [] := by simp [raiseReset, h]

/-- The debugger's inputs are nothing to a device's read. -/
theorem DeviceRead.answer_setDbg (r : DeviceRead) (obs : Bool) (s : State) (d : DebugConfig) :
    r.answer obs (s.setDbg d) =
      ⟨(r.answer obs s).value, (r.answer obs s).state.setDbg d, (r.answer obs s).events⟩ := by
  cases r with
  | cursor => cases obs <;> rfl
  | value | forwards => rfl

/-- Detached, they are nothing to a device's write. -/
theorem DeviceWrite.answer_setDbg (w : DeviceWrite) (obs : Bool) (a : Addr) {s : State} {d : DebugConfig}
    (hs : s.dbg.attached = false) (hd : d.attached = false) :
    w.answer obs a (s.setDbg d) = ⟨(w.answer obs a s).state.setDbg d, (w.answer obs a s).events⟩ := by
  cases w with
  | ctrl f e =>
    cases e with
    | reset =>
      exact congrArg (WriteAnswer.mk _) ((raiseReset_detached hd).trans (raiseReset_detached hs).symm)
    | silent | clock => rfl
  | usb | forwards => rfl

theorem DeviceWrite.no_debugOpen (w : DeviceWrite) (obs : Bool) (a : Addr) {s : State} (hs : s.dbg.attached = false) :
    (w.answer obs a s).events.filter Event.isDebugOpen = [] := by
  cases w with
  | ctrl f e =>
    cases e with
    | reset =>
      show (raiseReset obs a s.dbg).filter _ = []
      rw [raiseReset_detached hs]
      cases obs <;> rfl
    | silent | clock => rfl
  | usb | forwards => rfl

/-- An access that completes while the debugger is detached does not open it, and completes in the same way under any other
inputs of a detached debugger. -/
theorem step_port_detached {s t : State} {obs wr : Bool} {a : Addr} {v : Byte} (hs : s.dbg.attached = false)
    (h : step (s.enqueue (portTransaction obs wr a v)) = .next t) :
    t.out.events.filter Event.isDebugOpen = [] ∧ ∀ d : DebugConfig, d.attached = false →
      step ((s.setDbg d).enqueue (portTransaction obs wr a v)) = .next (t.setDbg d) := by
  cases wr with
  | false =>
    obtain ⟨r, -, hstep⟩ := step_device_read a
    rw [hstep a rfl rfl] at h
    obtain ⟨hi, hb, rfl⟩ := portRead_next h
    rw [State.finish_out, readWatch_detached hs, List.append_nil]
    refine ⟨r.no_debugOpen obs s, fun d hd => ?_⟩
    have hb' : (s.setDbg d).handler (rangeOf a) ≠ .unbound := hb
    rw [hstep a rfl rfl, portRead_eq_next (s := s.setDbg d) hi hb', r.answer_setDbg, State.setDbg_dbg,
      readWatch_detached hd, List.append_nil]
    rfl
  | true =>
    obtain ⟨w, -, hstep⟩ := step_device_write a v
    rw [hstep a rfl rfl] at h
    obtain ⟨hi, ⟨hf, -⟩ | ⟨-, hb, rfl⟩⟩ := portWrite_next h
    · rw [frozen_detached hs] at hf; cases hf
    · rw [State.finish_out, writeWatch_detached hs, List.nil_append]
      refine ⟨w.no_debugOpen obs a hs, fun d hd => ?_⟩
      have hb' : (s.setDbg d).handler (rangeOf a) ≠ .unbound := hb
      rw [hstep a rfl rfl, portWrite_eq_next (s := s.setDbg d) hi (frozen_detached hd) hb',
        w.answer_setDbg obs a hs hd, State.setDbg_dbg, writeWatch_detached hd, List.nil_append]
      rfl

/-- Settles O13: clear maps are one of the inputs of a detached debugger. -/
theorem detachedDebuggerIsSilent : Obligations.DetachedDebuggerIsSilent := by
  unfold Obligations.DetachedDebuggerIsSilent
  intro s obs wr a v hs
  refine ⟨fun t h e he => ?_, fun t h => ?_⟩
  · have silent := List.filter_eq_nil_iff.mp (step_port_detached hs h).1 e he
    exact Bool.eq_false_of_not_eq_true silent
  · exact ⟨_, (step_port_detached hs h).2 { s.dbg with watchRead := [], watchWrite := [], freeze := [] } hs, rfl, rfl, rfl⟩

end Sys2Proof.Machine
end

section
/-! PROOFS. The family 40_dispatcher, third part: the RAW bytes (40_dispatcher.md R89), which read as last written and which only a
RAW write, a reset or a restore changes. -/

namespace Sys2Proof.Machine

/-! ### Reading back -/

theorem portWrite_ready {obs : Bool} {a : Addr} {dev : State → WriteAnswer} {s : State} (hs : s.Ready)
    (hf : frozen obs a s.dbg = false) :
    portWrite obs a (fun _ => dev) s =
      .next ((dev s).state.finish (writeWatch obs a s.dbg ++ (dev s).events) .none) :=
  portWrite_eq_next hs.1 hf (hs.2 _)

theorem portRead_ready {obs : Bool} {a : Addr} {dev : State → ReadAnswer} {s : State} (hs : s.Ready) :
    portRead obs a (fun _ => dev) s =
      .next ((dev s).state.finish ((dev s).events ++ readWatch obs a s.dbg) (.byte (dev s).value)) :=
  portRead_eq_next hs.1 (hs.2 _)

/-- A byte written to a RAW offset of the control range is read back under any alias. -/
theorem ctrlRaw_readBack {s : State} (obs obs' : Bool) (al al' : BitVec 5) (off : BitVec 7) (v : Byte) (hs : s.Ready)
    (hw : Memory.wf 256 s.ctrl.ports = true) (hf : frozen obs (ctrlAddr off al) s.dbg = false) :
    ∃ t u, exec (.ctrlRawW obs al off v) s = .next t ∧ exec (.ctrlRawR obs' al' off) t = .next u ∧
      u.out.result = .byte v := by
  have ready : (s.setCtrl (s.ctrl.setPort off.toNat v)).Ready := hs
  refine ⟨_, _, (writesCtrl_raw obs al off v s).trans (portWrite_ready hs hf),
    (readsValue_ctrlRaw obs' al' off _).trans (portRead_ready (ready.finish _ _)), ?_⟩
  exact congrArg Result.byte (Memory.read_write_same hw off.toNat v)

/-- The same of the USB range. -/
theorem usbRaw_readBack {s : State} (obs obs' : Bool) (al al' : BitVec 3) (off : BitVec 9) (v : Byte) (hs : s.Ready)
    (hw : Memory.wf 512 s.usb.regs = true) (hf : frozen obs (usbAddr off al) s.dbg = false) :
    ∃ t u, exec (.usbRawW obs al off v) s = .next t ∧ exec (.usbRawR obs' al' off) t = .next u ∧
      u.out.result = .byte v := by
  have ready : (s.setUsb (s.usb.setReg off.toNat v)).Ready := hs
  refine ⟨_, _, (writesUsb_raw obs al off v s).trans (portWrite_ready hs hf),
    (readsValue_usbRaw obs' al' off _).trans (portRead_ready (ready.finish _ _)), ?_⟩
  exact congrArg Result.byte (Memory.read_write_same hw off.toNat v)

/-! ### Who changes a RAW byte of the control array -/

/-- A write of a named control register stores at most its own byte. -/
theorem ctrlUpdated_ports (v : Byte) (r : CtrlReg) (c : CtrlState) :
    (ctrlUpdated v r c).ports = c.ports ∨ ∃ x, (ctrlUpdated v r c).ports = c.ports.write (ctrlOffset r).toNat x := by
  cases r with
  | speed | priv0 | priv1 | priv2 | pstart0 | pstart1 | pstart2 | pend0 | pend1 | pend2 | stack0 | stack1 | stack2 | pack =>
    exact .inl rfl
  | shutdown => by_cases hv : v = Config.shutdownCode <;> exact .inr ⟨_, by simp only [ctrlUpdated, hv]; rfl⟩
  | _ => exact .inr ⟨_, rfl⟩

theorem ctrlUpdated_read_raw {off : BitVec 7} (ho : ctrlRegAt off = none) (v : Byte) (r : CtrlReg) (c : CtrlState) :
    (ctrlUpdated v r c).ports.read off.toNat = c.ports.read off.toNat := by
  have unnamed : off.toNat ≠ (ctrlOffset r).toNat := by
    intro h
    rw [BitVec.eq_of_toNat_eq h, ctrlRegAt_offset] at ho
    cases ho
  obtain h | ⟨x, h⟩ := ctrlUpdated_ports v r c
  · rw [h]
  · rw [h, Memory.read_write_other _ x unnamed]

/-- An operation leaves a RAW byte of the control array, or it is the RAW write of its offset, a reset of the ControlDevice or a
restore. -/
theorem Effect.ctrl_raw {i : Instr} {s t : State} {off : BitVec 7} (h : Effect i s t) (ho : ctrlRegAt off = none) :
    t.ctrl.ports.read off.toNat = s.ctrl.ports.read off.toNat ∨
    (∃ obs al v, i = .ctrlRawW obs al off v) ∨ i = .sbColdInit ∨ i = .sbGlobalReset ∨ ∃ snap, i = .sbSnapshotRestore snap := by
  cases h with
  | ctrlWrite obs al v r => exact .inl (ctrlUpdated_read_raw ho v r s.ctrl)
  | ctrlRawWrite obs al off' v he =>
    by_cases hoff : off = off'
    · exact .inr (.inl ⟨obs, al, v, by rw [hoff]⟩)
    · exact .inl (Memory.read_write_other _ v (fun h => hoff (BitVec.eq_of_toNat_eq h)))
  | coldInit => exact .inr (.inr (.inl rfl))
  | globalReset => exact .inr (.inr (.inr (.inl rfl)))
  | restore snap hl => exact .inr (.inr (.inr (.inr ⟨snap, rfl⟩)))
  | _ => exact .inl rfl

/-! ### Who changes a RAW byte of the USB block -/

/-- A write of a byte lane of a named USB register stores at most that byte. -/
theorem usbUpdated_regs (v : Byte) (lane : BitVec 2) (r : UsbReg) (u : UsbState) :
    (usbUpdated v lane r u).regs = u.regs ∨ ∃ x, (usbUpdated v lane r u).regs = u.regs.write (usbLane r lane).toNat x := by
  cases r with
  | gisr | digr | cxport => exact .inl rfl
  | dcfesr => unfold usbUpdated; split_ifs <;> exact .inr ⟨_, rfl⟩
  | _ => exact .inr ⟨_, rfl⟩

theorem usbUpdated_read_raw {off : BitVec 9} (ho : usbRegAt off = none) (v : Byte) (lane : BitVec 2) (r : UsbReg)
    (u : UsbState) : (usbUpdated v lane r u).regs.read off.toNat = u.regs.read off.toNat := by
  have unnamed : off.toNat ≠ (usbLane r lane).toNat := by
    intro h
    rw [BitVec.eq_of_toNat_eq h, usbRegAt_lane] at ho
    cases ho
  obtain h | ⟨x, h⟩ := usbUpdated_regs v lane r u
  · rw [h]
  · rw [h, Memory.read_write_other _ x unnamed]

/-- An entry point touches only the bytes it joins bits into. -/
theorem orBytes_read_other {w : Nat} (u : UsbState) (base : Nat) (bits : BitVec w) {n a : Nat} (h : ∀ k < n, base + k ≠ a) :
    (u.orBytes base bits n).regs.read a = u.regs.read a := by
  induction n with
  | zero => rfl
  | succ n ih =>
    rw [UsbState.orBytes, UsbState.setReg_regs, Memory.read_write_other _ _ (h n (by omega)).symm]
    exact ih (fun k hk => h k (by omega))

/-- The bytes of the entry points are lanes of named registers. -/
theorem entryLanes_named : ∀ p ∈ entryLanes, ∀ k < p.2, (usbRegAt (BitVec.ofNat 9 (p.1 + k))).isSome = true := by decide

theorem entry_read_raw {off : BitVec 9} (ho : usbRegAt off = none) {w : Nat} (u : UsbState) {base n : Nat} (bits : BitVec w)
    (hl : (base, n) ∈ entryLanes) : (u.orBytes base bits n).regs.read off.toNat = u.regs.read off.toNat := by
  refine orBytes_read_other u base bits (fun k hk h => ?_)
  have named := entryLanes_named (base, n) hl k hk
  rw [h, BitVec.ofNat_toNat, BitVec.setWidth_eq, ho] at named
  cases named

/-- Moving the endpoint-0 cursor or serving a chunk leaves the register block. -/
@[simp] theorem UsbState.cxAdvance_regs (u : UsbState) : u.cxAdvance.regs = u.regs := by
  unfold UsbState.cxAdvance; split <;> rfl

@[simp] theorem UsbState.served_regs (u : UsbState) : u.served.regs = u.regs := by
  unfold UsbState.served; dsimp only; split <;> rfl

/-- An operation leaves a RAW byte of the USB block, or it is the RAW write of its offset, a reset of the USBDeviceController or a
restore. -/
theorem Effect.usb_raw {i : Instr} {s t : State} {off : BitVec 9} (h : Effect i s t) (ho : usbRegAt off = none) :
    t.usb.regs.read off.toNat = s.usb.regs.read off.toNat ∨
    (∃ obs al v, i = .usbRawW obs al off v) ∨ i = .sbColdInit ∨ i = .sbGlobalReset ∨ i = .sbUsbReset ∨
      ∃ snap, i = .sbSnapshotRestore snap := by
  cases h with
  | advances | usbServeIn => exact .inl (by simp)
  | usbWrite obs al lane v r => exact .inl (usbUpdated_read_raw ho v lane r s.usb)
  | usbRawWrite obs al off' v he =>
    by_cases hoff : off = off'
    · exact .inr (.inl ⟨obs, al, v, by rw [hoff]⟩)
    · exact .inl (Memory.read_write_other _ v (fun h => hoff (BitVec.eq_of_toNat_eq h)))
  | usbEntry base n bits hl => exact .inl (entry_read_raw ho s.usb bits hl)
  | usbSetup bytes =>
    exact .inl (entry_read_raw (base := (usbBase .disg0).toNat) (n := 1) ho
      ((((s.usb.setBuffer (setupBytes bytes)).setIndex 0).setPending .null 0).setTransfer .setupReceived) 0x01#8 (by decide))
  | coldInit => exact .inr (.inr (.inl rfl))
  | globalReset => exact .inr (.inr (.inr (.inl rfl)))
  | usbReset => exact .inr (.inr (.inr (.inr (.inl rfl))))
  | restore snap hl => exact .inr (.inr (.inr (.inr (.inr ⟨snap, rfl⟩))))
  | _ => exact .inl rfl

/-- Settles O14: the read back of each range, and what an operation that completes can do to a RAW byte. -/
theorem rawPassThrough : Obligations.RawPassThrough := by
  unfold Obligations.RawPassThrough
  exact ⟨fun s obs obs' al al' off v hs hw _ hf => ctrlRaw_readBack obs obs' al al' off v hs hw hf,
    fun s obs obs' al al' off v hs hw _ hf => usbRaw_readBack obs obs' al al' off v hs hw hf,
    fun i s t off _ hx ho hne => ((exec_effect hx).ctrl_raw ho).resolve_left hne,
    fun i s t off _ hx ho hne => ((exec_effect hx).usb_raw ho).resolve_left hne⟩

end Sys2Proof.Machine
end

section
/-! PROOFS. The family 41_control, first part: every operation, and so every step, keeps the bytes zero that no port write stores
(41_control.md R94, R130; 42_usb.md R151, R154, R155, R165, R173; 92_eei_decisions.md D11). -/

namespace Sys2Proof.Machine

/-! ### The ControlDevice's record -/

/-- A store at a control offset that port writes store at keeps the others as they are; seven bits reach no index from 0x80 on. -/
theorem CtrlState.Storage.setPort {c : CtrlState} (hc : c.Storage) {off : BitVec 7} (ho : off.toNat ∉ unstoredOffsets)
    (v : Byte) : (c.setPort off.toNat v).Storage where
  wf := Memory.wf_write hc.wf (by omega) v
  unstored := fun a ha => (Memory.read_write_other _ v (ne_of_mem_of_not_mem ha ho)).trans (hc.unstored a ha)
  high := fun a ha => (Memory.read_write_other _ v (by omega)).trans (hc.high a ha)

theorem CtrlState.Storage.storePort {c : CtrlState} (hc : c.Storage) {r : CtrlReg}
    (hr : (ctrlOffset r).toNat ∉ unstoredOffsets) (v : Byte) : (c.storePort r v).Storage := hc.setPort hr v

/-- Every unstored offset is that of a named register (41_control.md R93). -/
theorem unstoredOffsets_named : ∀ n ∈ unstoredOffsets, (ctrlRegAt (BitVec.ofNat 7 n)).isSome = true := by decide

/-- A RAW offset of the control range is a stored one. -/
theorem ctrlRaw_stored {off : BitVec 7} (ho : ctrlRegAt off = none) : off.toNat ∉ unstoredOffsets := by
  intro h
  have named := unstoredOffsets_named _ h
  rw [BitVec.ofNat_toNat, BitVec.setWidth_eq, ho] at named
  cases named

/-- Every write of a named control register stores a byte of its own at a stored offset, or stores none: SPEED, the memory-range
registers and PACK write a field. -/
theorem CtrlState.Storage.updated {c : CtrlState} (hc : c.Storage) (v : Byte) (r : CtrlReg) :
    (ctrlUpdated v r c).Storage := by
  cases r with
  | speed | priv0 | priv1 | priv2 | pstart0 | pstart1 | pstart2 | pend0 | pend1 | pend2 | stack0 | stack1 | stack2 | pack =>
    exact { hc with }
  | powerMode => exact { hc.storePort (r := .powerMode) (by decide) v with }
  | battHs => exact { hc.storePort (r := .battHs) (by decide) v with }
  | shutdown =>
    have marked : (c.setOff true).Storage := { hc with }
    simp only [ctrlUpdated]
    split
    · exact marked.storePort (by decide) _
    · exact hc.storePort (by decide) v
  | reset | battStatus | devtype | charge | usbMirror | misc | pstatus =>
    refine hc.storePort ?_ v
    decide

/-- A global reset leaves the bytes of cold init and, where the off mark survives, its byte at SHUTDOWN (43_sideband.md R191). -/
theorem resetCtrl_storage (c : CtrlState) : (resetCtrl c).Storage := by
  have kept : ((CtrlState.coldInit.setLevel c.batterySetLevel).setCharging c.batteryCharging).Storage :=
    { coldInit_ctrl_storage with }
  have marked : (((CtrlState.coldInit.setLevel c.batterySetLevel).setCharging c.batteryCharging).setOff true).Storage :=
    { coldInit_ctrl_storage with }
  rw [resetCtrl_eq]
  split
  · exact marked.storePort (by decide) _
  · exact kept

/-! ### The USBDeviceController's record -/

/-- The bytes of the derived registers and of the data port, which no operation stores (42_usb.md R151, R165, R173). -/
def UnstoredUsbByte (a : Nat) : Prop := 0x0C0 ≤ a ∧ a ≤ 0x0C3 ∨ 0x140 ≤ a ∧ a ≤ 0x143 ∨ 0x1D0 ≤ a ∧ a ≤ 0x1D3

theorem UsbState.Storage.unstored {u : UsbState} (hu : u.Storage) {a : Nat} (ha : UnstoredUsbByte a) : u.regs.read a = 0#8 := by
  obtain ⟨h1, h2⟩ | ⟨h1, h2⟩ | ⟨h1, h2⟩ := ha
  · exact hu.gisr a h1 h2
  · exact hu.digr a h1 h2
  · exact hu.cxport a h1 h2

/-- Only the register block counts. -/
theorem UsbState.Storage.of_regs {u u' : UsbState} (hu : u.Storage) (h : u'.regs = u.regs) : u'.Storage where
  wf := h ▸ hu.wf
  gisr := h ▸ hu.gisr
  digr := h ▸ hu.digr
  cxport := h ▸ hu.cxport
  dcfesr := h ▸ hu.dcfesr

/-- A store inside the block, at a byte that is stored, which leaves bit 0 of DCFESR clear. -/
theorem UsbState.Storage.setReg {u : UsbState} (hu : u.Storage) {off : Nat} {v : Byte} (hlt : off < 512)
    (ho : ¬ UnstoredUsbByte off) (hv : off = 0x120 → v.getLsbD 0 = false) : (u.setReg off v).Storage := by
  have zero : ∀ a, UnstoredUsbByte a → (u.setReg off v).regs.read a = 0#8 := fun a ha =>
    (Memory.read_write_other _ v (by rintro rfl; exact ho ha)).trans (hu.unstored ha)
  exact
    { wf := Memory.wf_write hu.wf hlt v
      gisr := fun a h1 h2 => zero a (.inl ⟨h1, h2⟩)
      digr := fun a h1 h2 => zero a (.inr (.inl ⟨h1, h2⟩))
      cxport := fun a h1 h2 => zero a (.inr (.inr ⟨h1, h2⟩))
      dcfesr := by
        rw [setReg_regs, Memory.read_write hu.wf]
        split
        case isTrue h => exact hv h.symm
        case isFalse => exact hu.dcfesr }

/-- The unstored bytes are lanes of GISR, DIGR and CXPORT. -/
theorem usbLane_unstored {r : UsbReg} {lane : BitVec 2} (h : UnstoredUsbByte (usbLane r lane).toNat) :
    r = .gisr ∨ r = .digr ∨ r = .cxport := by
  unfold UnstoredUsbByte at h
  revert lane
  cases r <;> decide

/-- CX_DONE's byte is lane 0 of DCFESR. -/
theorem usbLane_dcfesr {r : UsbReg} {lane : BitVec 2} (h : (usbLane r lane).toNat = 0x120) : r = .dcfesr ∧ lane = 0#2 := by
  revert lane
  cases r <;> decide

/-- The unstored bytes and CX_DONE's are named ones. -/
theorem usbRaw_stored {off : BitVec 9} (h : usbRegAt off = none) : ¬ UnstoredUsbByte off.toNat ∧ off.toNat ≠ 0x120 := by
  have named : ∀ n, UnstoredUsbByte n ∨ n = 0x120 → (usbRegAt (BitVec.ofNat 9 n)).isSome = true := by
    rintro n ((⟨h1, h2⟩ | ⟨h1, h2⟩ | ⟨h1, h2⟩) | rfl)
    case inr => rfl
    all_goals interval_cases n <;> rfl
  rw [← not_or]
  intro hu
  have := named _ hu
  rw [BitVec.ofNat_toNat, BitVec.setWidth_eq, h] at this
  cases this

/-- Every write of a named USB register keeps the invariant: GISR, DIGR and CXPORT store nothing, DCFESR stores its lane 0
without bit 0, and the others have neither of these bytes. -/
theorem UsbState.Storage.updated {u : UsbState} (hu : u.Storage) (v : Byte) (lane : BitVec 2) (r : UsbReg) :
    (usbUpdated v lane r u).Storage := by
  have stored : r ≠ .gisr ∧ r ≠ .digr ∧ r ≠ .cxport → ∀ w : Byte, (r = .dcfesr ∧ lane = 0#2 → w.getLsbD 0 = false) →
      (u.setReg (usbLane r lane).toNat w).Storage := fun ⟨hg, hd, hc⟩ w hw =>
    hu.setReg (usbLane r lane).isLt (fun h => (usbLane_unstored h).elim hg (·.elim hd hc)) (fun h => hw (usbLane_dcfesr h))
  cases r with
  | gisr | digr | cxport => exact hu
  | dcfesr =>
    have masked : (u.setReg (usbLane .dcfesr lane).toNat (v &&& 0xFE#8)).Storage :=
      stored ⟨nofun, nofun, nofun⟩ _ (fun _ => by simp)
    unfold usbUpdated
    split_ifs with hlane hdone
    · exact masked.of_regs rfl
    · exact masked
    · exact stored ⟨nofun, nofun, nofun⟩ v (fun h => absurd h.2 hlane)
  | usbsts | usbintr | otgisr | otgier | gmir | dmigr | dmisg0 | dmisg1 | dmisg2 | disg0 | disg1 | disg2 =>
    exact stored ⟨nofun, nofun, nofun⟩ _ nofun

/-- The entry points join their bits into stored bytes, none of them DCFESR's. -/
theorem entryLanes_stored :
    ∀ p ∈ entryLanes, ∀ k < p.2, p.1 + k < 512 ∧ ¬ UnstoredUsbByte (p.1 + k) ∧ p.1 + k ≠ 0x120 := by
  unfold UnstoredUsbByte; decide

theorem UsbState.Storage.orBytes {u : UsbState} (hu : u.Storage) {w base n : Nat} (bits : BitVec w)
    (hl : ∀ k < n, base + k < 512 ∧ ¬ UnstoredUsbByte (base + k) ∧ base + k ≠ 0x120) :
    (u.orBytes base bits n).Storage := by
  induction n with
  | zero => exact hu
  | succ n ih =>
    obtain ⟨hlt, hstored, hdone⟩ := hl n (by omega)
    exact (ih (fun k hk => hl k (by omega))).setReg hlt hstored (fun h => absurd h hdone)

theorem UsbState.Storage.loadSetup {u : UsbState} (hu : u.Storage) (bytes : List Byte) : (u.loadSetup bytes).Storage := by
  have loaded : ((((u.setBuffer (setupBytes bytes)).setIndex 0).setPending .null 0).setTransfer .setupReceived).Storage :=
    hu.of_regs rfl
  exact loaded.orBytes _ (entryLanes_stored ((usbBase .disg0).toNat, 1) (by decide))

/-! ### The operations and the step -/

section
variable {i : Instr} {s t : State}

/-- An operation keeps the control record's unstored bytes, a restore only where the record restored has them so. A well-formed
RAW write stays clear of the named registers (30_encoding.md R67). -/
theorem Effect.ctrl_storage (h : Effect i s t) (hs : s.ctrl.Storage) (hw : i.wf = true)
    (hr : ∀ snap, i = .sbSnapshotRestore snap → snap.layout = .thisSpec → snap.ctrl.Storage) : t.ctrl.Storage := by
  cases h with
  | answers | draws | advances | usbWrite | usbRawWrite | usbReset | setDebugConfig | usbEntry | usbSetup | usbQueueSend
  | usbServeIn => exact hs
  | ctrlWrite obs al v r => exact hs.updated v r
  | ctrlRawWrite obs al off v =>
    have raw : ctrlRegAt off = none := by simpa [Instr.wf] using hw
    exact hs.setPort (ctrlRaw_stored raw) v
  | coldInit => exact coldInit_ctrl_storage
  | globalReset => exact resetCtrl_storage _
  | latchViolation | setBatteryLevel | setCharging => exact { hs with }
  | restore snap hl => exact hr snap rfl hl

/-- The same for the USB record. -/
theorem Effect.usb_storage (h : Effect i s t) (hs : s.usb.Storage) (hw : i.wf = true)
    (hr : ∀ snap, i = .sbSnapshotRestore snap → snap.layout = .thisSpec → snap.usb.Storage) : t.usb.Storage := by
  cases h with
  | answers | draws | ctrlWrite | ctrlRawWrite | latchViolation | setBatteryLevel | setCharging | setDebugConfig => exact hs
  | advances => exact hs.of_regs s.usb.cxAdvance_regs
  | usbWrite obs al lane v r => exact hs.updated v lane r
  | usbRawWrite obs al off v =>
    have raw : usbRegAt off = none := by simpa [Instr.wf] using hw
    obtain ⟨hstored, hdone⟩ := usbRaw_stored raw
    exact hs.setReg (by omega) hstored (fun h => absurd h hdone)
  | coldInit | globalReset | usbReset => exact cleared_usb_storage
  | usbEntry base n bits hl => exact hs.orBytes bits (entryLanes_stored (base, n) hl)
  | usbSetup bytes => exact hs.loadSetup bytes
  | usbQueueSend buf len => exact hs.of_regs rfl
  | usbServeIn hd => exact hs.of_regs s.usb.served_regs
  | restore snap hl => exact hr snap rfl hl

end

/-- Settles O22: an idle step changes no record; any other step is one well-formed operation, whose effect stores no byte where
none is stored and leaves the operations after it waiting. -/
theorem stepKeepsStorage : Obligations.StepKeepsStorage := by
  unfold Obligations.StepKeepsStorage
  intro s t hs h
  obtain ⟨-, rfl⟩ | ⟨w, rest, i, hin, hd, hx⟩ := step_next h
  · exact ⟨hs.ctrl, hs.usb, hs.queued⟩
  · have effect := exec_effect hx
    have wf := wf_of_decode hd
    obtain ⟨restored, waiting⟩ := hs.queued.cons hin
    exact
      { ctrl := effect.ctrl_storage hs.ctrl wf (fun snap hi hl => (restored snap (hi ▸ hd) hl).1)
        usb := effect.usb_storage hs.usb wf (fun snap hi hl => (restored snap (hi ▸ hd) hl).2)
        queued := waiting t effect.inputs }

end Sys2Proof.Machine
end

section
/-! PROOFS. The family 41_control, second part: the reads and writes of the control registers (41_control.md R93 to R132) and the
privilege check (R133, R134), each from the register's value, update and events of `Laws/Access.lean`. -/

namespace Sys2Proof.Machine

open Sys2Proof.Stated

/-! ### Reads -/

/-- On a ready block a read of a named control register answers the register's value and changes nothing (41_control.md R95). -/
theorem ctrlRead_answers {s : State} (hs : s.Ready) (obs : Bool) (al : BitVec 5) (r : CtrlReg) :
    Answers (ctrlReadInstr obs al r) s (readWatch obs (ctrlAddr (ctrlOffset r) al) s.dbg)
      (.byte (ctrlValue s.ctrl s.usb r)) :=
  (readsValue_named obs al r s).trans (portRead_ready hs)

/-- The same of every register of a list, written as the statements list them: the operation, the offset and the value. -/
theorem ctrlReads_answer {s : State} (hs : s.Ready) (obs : Bool) (al : BitVec 5) (regs : List CtrlReg) :
    ∀ p ∈ regs.map (fun r => (ctrlReadInstr obs al r, ctrlOffset r, ctrlValue s.ctrl s.usb r)),
      Answers p.1 s (readWatch obs (ctrlAddr p.2.1 al) s.dbg) (.byte p.2.2) :=
  List.forall_mem_map.mpr (fun r _ => ctrlRead_answers hs obs al r)

/-- The twelve byte registers of the memory ranges (41_control.md R93). -/
def rangeRegs : List CtrlReg :=
  [.priv0, .priv1, .priv2, .pstart0, .pstart1, .pstart2, .pend0, .pend1, .pend2, .stack0, .stack1, .stack2]

/-- Settles O27: the value of each of the twelve registers is its byte. -/
theorem rangeByteReads : Obligations.RangeByteReads := by
  unfold Obligations.RangeByteReads
  exact fun s obs al hs => ctrlReads_answer hs obs al rangeRegs

/-- Settles O25: five named registers whose value is their stored byte, and the RAW offsets. -/
theorem controlStoredReads : Obligations.ControlStoredReads := by
  unfold Obligations.ControlStoredReads
  refine fun s obs al hs => ⟨?named, fun off _ => (readsValue_ctrlRaw obs al off s).trans (portRead_ready hs)⟩
  simp only [List.forall_mem_cons]
  exact ⟨ctrlRead_answers hs obs al .reset, ctrlRead_answers hs obs al .powerMode, ctrlRead_answers hs obs al .battHs,
    ctrlRead_answers hs obs al .shutdown, ctrlRead_answers hs obs al .pack, List.forall_mem_nil _⟩

/-- Bits 2 and 3 of the speed code being clear, the widened code has bits 4, 1 and 0 only (10_state.md R21, R44). -/
theorem speedCode_widened {code : BitVec 5} (h : code &&& 0b01100#5 = 0#5) :
    code.setWidth 8 &&& 0b11101100#8 = 0#8 := by
  revert code; decide

/-- Settles O26: the values of seven registers, and what the invariant says of two of them. -/
theorem controlComputedReads : Obligations.ControlComputedReads := by
  unfold Obligations.ControlComputedReads
  exact fun s obs al hs =>
    ⟨ctrlReads_answer hs obs al [.speed, .battStatus, .devtype, .charge, .usbMirror, .misc, .pstatus],
      fun inv => ⟨speedCode_widened inv.speed, inv.battery⟩⟩

/-! ### Writes -/

/-- On a ready block a write of a named control register that is not frozen updates the record by the register's rule and emits
the watch before the register's own events (41_control.md R96, 40_dispatcher.md R92). -/
theorem exec_ctrlWrite {s : State} {obs : Bool} {al : BitVec 5} (v : Byte) {r : CtrlReg} (hs : s.Ready)
    (hf : frozen obs (ctrlAddr (ctrlOffset r) al) s.dbg = false) :
    exec (ctrlWriteInstr obs al v r) s = .next ((s.setCtrl (ctrlUpdated v r s.ctrl)).finish
      (writeWatch obs (ctrlAddr (ctrlOffset r) al) s.dbg ++ ctrlEmitted obs al v r s.dbg) .none) :=
  (writesCtrl_named obs al v r s).trans (portWrite_ready hs hf)

/-- An operation that leaves the record `c` with the array after one store stores that byte and no other. -/
theorem storesControl_of_exec {i : Instr} {s : State} {off : Nat} {x : Byte} {c : CtrlState} {e : List Event}
    (hw : Memory.wf 256 s.ctrl.ports = true)
    (h : exec i s = .next ((s.setCtrl { c with ports := s.ctrl.ports.write off x }).finish e .none)) :
    StoresControl i s off x c e :=
  ⟨_, h, rfl, Memory.read_write_same hw off x, fun _ ha => Memory.read_write_other _ x ha⟩

/-- A write of a named register whose rule stores `x`, makes the other fields those of `c` and emits `e`. -/
theorem ctrlWrite_stores {s : State} {obs : Bool} {al : BitVec 5} {v x : Byte} {r : CtrlReg} {c : CtrlState} {e : List Event}
    (hs : s.Ready) (hw : Memory.wf 256 s.ctrl.ports = true) (hf : frozen obs (ctrlAddr (ctrlOffset r) al) s.dbg = false)
    (hu : ctrlUpdated v r s.ctrl = { c with ports := s.ctrl.ports.write (ctrlOffset r).toNat x })
    (he : ctrlEmitted obs al v r s.dbg = e) :
    StoresControl (ctrlWriteInstr obs al v r) s (ctrlOffset r).toNat x c
      (writeWatch obs (ctrlAddr (ctrlOffset r) al) s.dbg ++ e) :=
  storesControl_of_exec hw (by rw [exec_ctrlWrite v hs hf, hu, he])

/-- The same of a register that emits nothing of its own. -/
theorem ctrlWrite_stores_silently {s : State} {obs : Bool} {al : BitVec 5} {v x : Byte} {r : CtrlReg} {c : CtrlState}
    (hs : s.Ready) (hw : Memory.wf 256 s.ctrl.ports = true) (hf : frozen obs (ctrlAddr (ctrlOffset r) al) s.dbg = false)
    (hu : ctrlUpdated v r s.ctrl = { c with ports := s.ctrl.ports.write (ctrlOffset r).toNat x })
    (he : ctrlEmitted obs al v r s.dbg = []) :
    StoresControl (ctrlWriteInstr obs al v r) s (ctrlOffset r).toNat x c
      (writeWatch obs (ctrlAddr (ctrlOffset r) al) s.dbg) := by
  simpa only [List.append_nil] using ctrlWrite_stores hs hw hf hu he

/-- A RAW write that is not frozen stores its byte (41_control.md R132). -/
theorem ctrlRawWrite_stores {s : State} {obs : Bool} {al : BitVec 5} {off : BitVec 7} (v : Byte) (hs : s.Ready)
    (hw : Memory.wf 256 s.ctrl.ports = true) (hf : frozen obs (ctrlAddr off al) s.dbg = false) :
    StoresControl (.ctrlRawW obs al off v) s off.toNat v s.ctrl (writeWatch obs (ctrlAddr off al) s.dbg) :=
  storesControl_of_exec hw (by rw [writesCtrl_raw, portWrite_ready hs hf, List.append_nil]; rfl)

/-- Settles O28: six named registers whose update is the store of their byte, and the RAW offsets. -/
theorem controlStores : Obligations.ControlStores := by
  unfold Obligations.ControlStores
  refine fun s obs al v hs hw => ⟨?named, fun off _ hf => ctrlRawWrite_stores v hs hw hf⟩
  simp only [List.forall_mem_cons]
  exact ⟨fun hf => ctrlWrite_stores_silently (r := .battStatus) hs hw hf rfl rfl,
    fun hf => ctrlWrite_stores_silently (r := .devtype) hs hw hf rfl rfl,
    fun hf => ctrlWrite_stores_silently (r := .charge) hs hw hf rfl rfl,
    fun hf => ctrlWrite_stores_silently (r := .usbMirror) hs hw hf rfl rfl,
    fun hf => ctrlWrite_stores_silently (r := .misc) hs hw hf rfl rfl,
    fun hf => ctrlWrite_stores_silently (r := .pstatus) hs hw hf rfl rfl, List.forall_mem_nil _⟩

/-! ### The memory-range registers -/

/-- Bit by bit: byte `n` is replaced, every other bit is kept (00_scope.md R9). -/
theorem getLsbD_insertN (x : Word24) (n : Nat) (b : Byte) {j : Nat} (hj : j < 24) :
    (insertN x n b).getLsbD j =
      if j < 8 * n then x.getLsbD j else if j < 8 * n + 8 then b.getLsbD (j - 8 * n) else x.getLsbD j := by
  have mask : (0xFF#24).getLsbD (j - 8 * n) = (decide (j - 8 * n < 24) && decide (j - 8 * n < 8)) := getLsbD_lowMask 24 8 _
  simp only [insertN, BitVec.getLsbD_or, BitVec.getLsbD_and, BitVec.getLsbD_not, BitVec.getLsbD_shiftLeft,
    BitVec.getLsbD_setWidth, mask, hj]
  split_ifs with below inside
  · simp [below]
  · simp [below, show j - 8 * n < 8 by omega, show j - 8 * n < 24 by omega]
  · simp [below, show ¬ j - 8 * n < 8 by omega, BitVec.getLsbD_of_ge b (j - 8 * n) (by omega)]

theorem insertN_zero (x : Word24) (b : Byte) : insertN x 0 b = x.extractLsb' 8 16 ++ b := by
  refine BitVec.eq_of_getLsbD_eq (fun j hj => ?_)
  rw [getLsbD_insertN x 0 b hj, BitVec.getLsbD_append]
  by_cases h : j < 8
  · simp [h]
  · simp [h, show j - 8 < 16 by omega, show 8 + (j - 8) = j by omega]

theorem insertN_one (x : Word24) (b : Byte) : insertN x 1 b = x.extractLsb' 16 8 ++ b ++ x.extractLsb' 0 8 := by
  refine BitVec.eq_of_getLsbD_eq (fun j hj => ?_)
  rw [getLsbD_insertN x 1 b hj, getLsbD_append3]
  split_ifs with low mid
  · simp [low]
  · rfl
  · simp [show j - 8 - 8 < 8 by omega, show 16 + (j - 8 - 8) = j by omega]

theorem insertN_two (x : Word24) (b : Byte) : insertN x 2 b = b ++ x.extractLsb' 0 16 := by
  refine BitVec.eq_of_getLsbD_eq (fun j hj => ?_)
  rw [getLsbD_insertN x 2 b hj, BitVec.getLsbD_append]
  by_cases h : j < 16
  · simp [h]
  · simp [h, show j < 24 by omega]
/-- On a ready block writes of registers that emit nothing of their own update the record and emit the watch, written as the
statement lists them: the operation, the offset and the record after. -/
theorem ctrlWrites_update {s : State} {obs : Bool} {al : BitVec 5} {v : Byte} (hs : s.Ready) (regs : List CtrlReg)
    (he : ∀ r ∈ regs, ctrlEmitted obs al v r s.dbg = []) :
    ∀ p ∈ regs.map (fun r => (ctrlWriteInstr obs al v r, ctrlOffset r, ctrlUpdated v r s.ctrl)),
      frozen obs (ctrlAddr p.2.1 al) s.dbg = false →
        exec p.1 s = .next { s with ctrl := p.2.2, out := ⟨writeWatch obs (ctrlAddr p.2.1 al) s.dbg, .none⟩ } := by
  refine List.forall_mem_map.mpr (fun r hr hf => ?_)
  rw [exec_ctrlWrite v hs hf, he r hr, List.append_nil]
  rfl

/-- Settles O29: the update of each of the twelve registers replaces one byte of one field, and none emits an event. -/
theorem rangeByteWrites : Obligations.RangeByteWrites := by
  unfold Obligations.RangeByteWrites
  intro s obs al v hs
  have silent : ∀ r ∈ rangeRegs, ctrlEmitted obs al v r s.dbg = [] := by
    simp [rangeRegs, ctrlEmitted]
  simp only [← insertN_zero, ← insertN_one, ← insertN_two]
  exact ctrlWrites_update hs rangeRegs silent

/-! ### SPEED and PACK, which write a field -/

/-- The four rates (10_state.md R30). -/
theorem clockRate_eq (c : BitVec 2) :
    Config.clockRate c = if c = 0#2 then 6000000 else if c = 1#2 then 12000000 else if c = 2#2 then 24000000 else 48000000 := by
  revert c; decide

/-- Settles O31: SPEED's update is its code, and its own event the rate of the two low bits. -/
theorem speedWrite : Obligations.SpeedWrite := by
  unfold Obligations.SpeedWrite
  intro s obs al v hs hf
  rw [← clockRate_eq]
  exact exec_ctrlWrite v (r := .speed) hs hf

/-- Settles O35: PACK's update masks the flags, here read bit by bit. -/
theorem acknowledgeWrite : Obligations.AcknowledgeWrite := by
  unfold Obligations.AcknowledgeWrite
  intro s obs al v hs hf
  have run := exec_ctrlWrite v (r := .pack) hs hf
  rw [show ctrlEmitted obs al v .pack s.dbg = [] from rfl, List.append_nil] at run
  refine ⟨_, run, rfl, fun j => ?flags⟩
  show (s.ctrl.protectionStatus &&& ~~~v).getLsbD j = _
  rw [BitVec.getLsbD_and, BitVec.getLsbD_not]
  by_cases hj : j < 8
  · simp [hj]
  · simp [BitVec.getLsbD_of_ge s.ctrl.protectionStatus j (by omega)]

/-! ### The reset requests -/

/-- The events of a reset request as the statements write them (41_control.md R97). -/
theorem raiseReset_eq (obs : Bool) (a : Addr) (s : State) : raiseReset obs a s.dbg = resetEvents obs a s := by
  cases obs with
  | false => rfl
  | true => by_cases h : s.dbg.attached = true ∧ s.dbg.openOnReset = true <;> simp [raiseReset, resetEvents, h]

/-- Settles O30: RESET stores its byte, and its own events are those of a request where the trigger bit is set. -/
theorem resetTriggerWrite : Obligations.ResetTriggerWrite := by
  unfold Obligations.ResetTriggerWrite
  intro s obs al v hs hw hf
  rw [← raiseReset_eq]
  exact ctrlWrite_stores (r := .reset) hs hw hf rfl rfl

/-- Settles O34: of the shutdown code SHUTDOWN stores the code with the status bit, which is 0xD5, marks the block off and emits
the events of a request; every other value it stores and emits nothing. -/
theorem shutdownWrite : Obligations.ShutdownWrite := by
  unfold Obligations.ShutdownWrite
  intro s obs al v hs hw hf
  refine ⟨fun hv => ?code, fun hv => ?plain⟩
  case code =>
    subst hv
    rw [← raiseReset_eq]
    exact ctrlWrite_stores (r := .shutdown) hs hw hf rfl rfl
  case plain =>
    exact ctrlWrite_stores_silently (r := .shutdown) hs hw hf (if_neg hv) (if_neg hv)

/-! ### The battery machine -/

/-- The mask of a power-mode write holds bits 7 and 4 (41_control.md R106). -/
theorem powerModeState_eq (v : Byte) :
    powerModeState v = if v.getLsbD 7 = true ∨ v.getLsbD 4 = true then 0x01#8 else 0x00#8 := by
  revert v; decide

/-- Settles O32: POWER_MODE stores its byte and sets the battery state by its two bits. -/
theorem powerModeWrite : Obligations.PowerModeWrite := by
  unfold Obligations.PowerModeWrite
  intro s obs al v hs hw hf
  rw [← powerModeState_eq]
  exact ctrlWrite_stores_silently (r := .powerMode) hs hw hf rfl rfl

/-- The handshake's next states and what leads to each of them, the table of 41_control.md R108. -/
def HandshakeTable (st v : Byte) (level : BatteryLevel) (next : Byte) : Prop :=
  (next = 0x03#8 ↔ st = 0x01#8 ∧ v = 0x03#8) ∧
  (next = 0x05#8 ↔ st = 0x03#8 ∧ level ≠ .level0 ∧ v = 0x83#8) ∧
  (next = 0x07#8 ↔ st = 0x05#8 ∧ level ≠ .level1 ∧ v = 0x03#8) ∧
  (next = 0x09#8 ↔ st = 0x07#8 ∧ level ≠ .level2 ∧ v = 0x83#8) ∧
  (next = 0x0B#8 ↔ st = 0x09#8 ∧ level ≠ .level3 ∧ v = 0x03#8) ∧
  next ∈ [0x00#8, 0x03#8, 0x05#8, 0x07#8, 0x09#8, 0x0B#8]

/-- Each advancing row starts in a state of its own, so that no two rows apply at once; where none does, the state is 0. -/
theorem handshake_table (st v : Byte) (level : BatteryLevel) : HandshakeTable st v level (handshake st v level) := by
  unfold handshake
  split_ifs with h3 h5 h7 h9 hB
  · obtain ⟨rfl, rfl⟩ := h3; simp [HandshakeTable]
  · obtain ⟨rfl, hlevel, rfl⟩ := h5; simp [HandshakeTable, hlevel]
  · obtain ⟨rfl, hlevel, rfl⟩ := h7; simp [HandshakeTable, hlevel]
  · obtain ⟨rfl, hlevel, rfl⟩ := h9; simp [HandshakeTable, hlevel]
  · obtain ⟨rfl, hlevel, rfl⟩ := hB; simp [HandshakeTable, hlevel]
  · simp only [HandshakeTable, h3, h5, h7, h9, hB]; decide

/-- Settles O33: BATT_HS stores its byte and moves the battery machine by the table. -/
theorem handshakeWrite : Obligations.HandshakeWrite := by
  unfold Obligations.HandshakeWrite
  intro s obs al v hs hw hf
  exact ⟨_, ctrlWrite_stores_silently (r := .battHs) hs hw hf rfl rfl, handshake_table _ _ _⟩

/-! ### The privilege check -/

/-- The comparisons of 24-bit words are those of their numbers (41_control.md R133). -/
theorem unprivileged_eq (c : CtrlState) (pc : Word24) :
    c.unprivileged pc = (decide (c.privilegedBoundary.toNat < pc.toNat) &&
      (decide (pc.toNat < c.protectedStart.toNat) || decide (c.protectedEnd.toNat < pc.toNat))) := rfl

/-- With the bounds inverted every address is outside the protected range (41_control.md R134). -/
theorem unprivileged_inverted {c : CtrlState} (h : c.protectedEnd.toNat < c.protectedStart.toNat) (pc : Word24) :
    c.unprivileged pc = decide (c.privilegedBoundary.toNat < pc.toNat) := by
  have outside : pc.toNat < c.protectedStart.toNat ∨ c.protectedEnd.toNat < pc.toNat := by omega
  rw [unprivileged_eq, ← Bool.decide_or, decide_eq_true outside, Bool.and_true]

/-- Settles O57: the operation answers the check, the check is the comparison of numbers, and before cold init it faults. -/
theorem privilegeCheck : Obligations.PrivilegeCheck := by
  unfold Obligations.PrivilegeCheck
  have answers : ∀ (s : State) (pc : Word24), s.initialised = true →
      Answers (.sbPrivCheck pc) s [] (.bool (s.ctrl.unprivileged pc)) := fun _ pc hs =>
    sideBand_eq_next (run := fun s => ⟨s, [], .bool (s.ctrl.unprivileged pc)⟩) hs
  refine ⟨fun s pc hs => ⟨answers s pc hs, fun h => ?inverted⟩, fun pc s hs => exec_uninitialised hs nofun⟩
  rw [← unprivileged_inverted h]
  exact answers s pc hs

end Sys2Proof.Machine
end

section
/-! PROOFS. The family 42_usb, first part: what every operation does to the endpoint-0 machine and to the length of its pending
view (42_usb.md R176), and so that data is pending exactly in DataStage. -/

namespace Sys2Proof.Machine

/-! ### The endpoint-0 machine of a USB record -/

/-- Of the writes of named registers only CX_DONE, bit 0 of DCFESR's lane 0, moves the machine, and it drops the pending view
(42_usb.md R155). -/
theorem usbUpdated_endpoint0 (v : Byte) (lane : BitVec 2) (r : UsbReg) (u : UsbState) :
    ((usbUpdated v lane r u).transferState = u.transferState ∧ (usbUpdated v lane r u).pendingLength = u.pendingLength) ∨
    ((r = .dcfesr ∧ lane = 0#2 ∧ v.getLsbD 0 = true) ∧
      (usbUpdated v lane r u).transferState = .idle ∧ (usbUpdated v lane r u).pendingLength = 0) := by
  cases r with
  | dcfesr =>
    unfold usbUpdated
    split_ifs with hlane hdone
    · exact .inr ⟨⟨rfl, hlane, hdone⟩, rfl, rfl⟩
    · exact .inl ⟨rfl, rfl⟩
    · exact .inl ⟨rfl, rfl⟩
  | _ => exact .inl ⟨rfl, rfl⟩

/-- The data port's cursor is no part of the machine (42_usb.md R172). -/
@[simp] theorem UsbState.cxAdvance_transferState (u : UsbState) : u.cxAdvance.transferState = u.transferState := by
  rw [u.cxAdvance_eq]

@[simp] theorem UsbState.cxAdvance_pendingLength (u : UsbState) : u.cxAdvance.pendingLength = u.pendingLength := by
  rw [u.cxAdvance_eq]

@[simp] theorem UsbState.loadSetup_transferState (u : UsbState) (bytes : List Byte) :
    (u.loadSetup bytes).transferState = .setupReceived := orBytes_transferState ..

@[simp] theorem UsbState.loadSetup_pendingLength (u : UsbState) (bytes : List Byte) : (u.loadSetup bytes).pendingLength = 0 :=
  orBytes_pendingLength ..

/-- Serving in DataStage takes a chunk from the view, and the last one, of at most 64 bytes, ends the stage (42_usb.md R185). -/
theorem UsbState.served_eq {u : UsbState} (hd : u.transferState = .dataStage) :
    u.served = { u with
      pendingBuffer := ptrPlus u.pendingBuffer (min u.pendingLength 64)
      pendingLength := u.pendingLength - min u.pendingLength 64
      transferState := if u.pendingLength ≤ 64 then .statusStage else .dataStage } := by
  have drained : u.pendingLength - min u.pendingLength 64 = 0 ↔ u.pendingLength ≤ 64 := by omega
  unfold UsbState.served UsbState.chunkSize Config.ep0Mps
  simp only [setPending_pendingLength, drained]
  split_ifs
  · rfl
  · rw [← hd]; rfl

/-! ### Data is pending exactly in DataStage -/

/-- Only the machine and the length of the view count. -/
theorem UsbState.PendingInDataStage.of_endpoint0 {u u' : UsbState} (hu : u.PendingInDataStage)
    (ht : u'.transferState = u.transferState) (hl : u'.pendingLength = u.pendingLength) : u'.PendingInDataStage := by
  unfold UsbState.PendingInDataStage
  rw [ht, hl]
  exact hu

/-- With the view dropped and the machine outside DataStage there is nothing to ask. -/
theorem UsbState.pendingInDataStage_of_dropped {u : UsbState} (ht : u.transferState ≠ .dataStage) (hl : u.pendingLength = 0) :
    u.PendingInDataStage := iff_of_false ht (by omega)

theorem UsbState.PendingInDataStage.updated {u : UsbState} (hu : u.PendingInDataStage) (v : Byte) (lane : BitVec 2)
    (r : UsbReg) : (usbUpdated v lane r u).PendingInDataStage := by
  obtain ⟨ht, hl⟩ | ⟨-, ht, hl⟩ := usbUpdated_endpoint0 v lane r u
  · exact hu.of_endpoint0 ht hl
  · exact pendingInDataStage_of_dropped (by simp [ht]) hl

/-- Queueing enters DataStage exactly with data (42_usb.md R183). -/
theorem UsbState.pendingInDataStage_queueSend (u : UsbState) (buf : HostPtr) (len : Nat) :
    ((u.setPending buf len).setTransfer (if len = 0 then .statusStage else .dataStage)).PendingInDataStage := by
  show (if len = 0 then TransferState.statusStage else .dataStage) = .dataStage ↔ 0 < len
  by_cases h : len = 0
  · simp [h]
  · simp [h, Nat.pos_of_ne_zero h]

/-- Serving stays in DataStage exactly where data is left (42_usb.md R185). -/
theorem UsbState.pendingInDataStage_served {u : UsbState} (hd : u.transferState = .dataStage) :
    u.served.PendingInDataStage := by
  rw [served_eq hd]
  show (if u.pendingLength ≤ 64 then TransferState.statusStage else .dataStage) = .dataStage ↔
    0 < u.pendingLength - min u.pendingLength 64
  split_ifs with h
  · exact iff_of_false nofun (by omega)
  · exact iff_of_true rfl (by omega)

/-- Every operation leaves the machine and the view, or drops, queues or serves the view, or is a restore, which brings the
record's. -/
theorem Effect.usb_pending {i : Instr} {s t : State} (h : Effect i s t) (hs : s.usb.PendingInDataStage)
    (hr : ∀ snap, i = .sbSnapshotRestore snap → snap.layout = .thisSpec → snap.usb.PendingInDataStage) :
    t.usb.PendingInDataStage := by
  cases h with
  | answers | draws | ctrlWrite | ctrlRawWrite | latchViolation | setBatteryLevel | setCharging | setDebugConfig => exact hs
  | advances => exact hs.of_endpoint0 s.usb.cxAdvance_transferState s.usb.cxAdvance_pendingLength
  | usbWrite obs al lane v r => exact hs.updated v lane r
  | usbRawWrite obs al off v => exact hs.of_endpoint0 rfl rfl
  | coldInit | globalReset | usbReset => exact cleared_usb_pending
  | usbEntry base n bits => exact hs.of_endpoint0 (orBytes_transferState ..) (orBytes_pendingLength ..)
  | usbSetup bytes => exact UsbState.pendingInDataStage_of_dropped (by simp) (by simp)
  | usbQueueSend buf len => exact s.usb.pendingInDataStage_queueSend buf len
  | usbServeIn hd => exact UsbState.pendingInDataStage_served hd
  | restore snap hl => exact hr snap rfl hl

/-- Settles O23: an idle step changes no record; any other step is one operation, whose effect keeps the equivalence and leaves
the operations after it waiting. -/
theorem stepKeepsPendingInDataStage : Obligations.StepKeepsPendingInDataStage := by
  unfold Obligations.StepKeepsPendingInDataStage
  intro s t hs h
  obtain ⟨-, rfl⟩ | ⟨w, rest, i, hin, hd, hx⟩ := step_next h
  · exact ⟨hs.usb, hs.queued⟩
  · have effect := exec_effect hx
    obtain ⟨restored, waiting⟩ := hs.queued.cons hin
    exact
      { usb := effect.usb_pending hs.usb (fun snap hi hl => (restored snap (hi ▸ hd) hl).2)
        queued := waiting t effect.inputs }

/-! ### Who moves the machine -/

/-- If SB.USB_SETUP answers a next state, the packet was too short and changed nothing, or it was loaded (42_usb.md R182). -/
theorem usbSetup_next {bytes : List Byte} {s t : State} (h : exec (.sbUsbSetup bytes) s = .next t) :
    (bytes.length < 8 ∧ t = s.finish [] .none) ∨
    (8 ≤ bytes.length ∧
      t = (s.setUsb (s.usb.loadSetup bytes)).finish [.usbNotify .grp0 (s.usb.loadSetup bytes).irq] .none) := by
  have leaves := sideBand_leaves (fun _ => rfl) h
  by_cases hb : bytes.length < 8
  · simp only [if_pos hb] at leaves; exact .inl ⟨hb, leaves⟩
  · simp only [if_neg hb] at leaves; exact .inr ⟨by omega, leaves⟩

/-- Settles O51, effect by effect: those that can move the machine are the rows of the table of 42_usb.md R176 and a restore. -/
theorem transferStateChanges : Obligations.TransferStateChanges := by
  unfold Obligations.TransferStateChanges
  intro i s t h moved
  have effect := exec_effect h
  cases effect with
  | advances => exact absurd s.usb.cxAdvance_transferState moved
  | usbEntry base n bits => exact absurd (orBytes_transferState ..) moved
  | usbSetup bytes =>
    obtain ⟨-, same⟩ | ⟨hlen, -⟩ := usbSetup_next h
    · exact absurd (congrArg (fun t : State => t.usb.transferState) same) moved
    · exact .inl ⟨bytes, rfl, hlen, s.usb.loadSetup_transferState bytes⟩
  | usbQueueSend buf len =>
    by_cases hlen : len = 0
    · subst hlen; exact .inr (.inr (.inl ⟨buf, rfl, rfl⟩))
    · exact .inr (.inl ⟨buf, len, rfl, Nat.pos_of_ne_zero hlen, if_neg hlen⟩)
  | usbServeIn hd =>
    have stage := congrArg UsbState.transferState (UsbState.served_eq hd)
    by_cases hlast : s.usb.pendingLength ≤ 64
    · exact .inr (.inr (.inr (.inl ⟨rfl, hd, hlast, stage.trans (if_pos hlast)⟩)))
    · exact absurd (stage.trans ((if_neg hlast).trans hd.symm)) moved
  | usbWrite obs al lane v r =>
    obtain ⟨same, -⟩ | ⟨⟨rfl, rfl, hdone⟩, idle, -⟩ := usbUpdated_endpoint0 v lane r s.usb
    · exact absurd same moved
    · exact .inr (.inr (.inr (.inr (.inl ⟨obs, al, v, rfl, hdone, idle⟩))))
  | usbReset => exact .inr (.inr (.inr (.inr (.inr (.inl ⟨.inl rfl, rfl⟩)))))
  | globalReset => exact .inr (.inr (.inr (.inr (.inr (.inl ⟨.inr (.inl rfl), rfl⟩)))))
  | coldInit => exact .inr (.inr (.inr (.inr (.inr (.inl ⟨.inr (.inr rfl), rfl⟩)))))
  | restore snap => exact .inr (.inr (.inr (.inr (.inr (.inr ⟨snap, rfl⟩)))))
  | _ => exact absurd rfl moved

end Sys2Proof.Machine
end

section
/-! PROOFS. The family 42_usb, second part: the reads and writes of the USB registers (42_usb.md R136 to R175), each from the
register's update of `Laws/Access.lean` and the access routine on a ready block. -/

namespace Sys2Proof.Machine

open Sys2Proof.Stated

/-! ### Byte lanes -/

/-- The statements add a lane to its register's base, where the model joins it in: the bases are multiples of four. -/
theorem laneAddr_usbBase (r : UsbReg) (lane : BitVec 2) (al : BitVec 3) :
    laneAddr (usbBase r) lane al = usbRegAddr r lane al := by
  have lanes : usbBase r + lane.setWidth 9 = usbLane r lane := by revert lane; cases r <;> decide
  rw [laneAddr, lanes, usbRegAddr]

/-- A value of three bits, widened to a register word, stands in lane 0 (42_usb.md R150, R164). -/
theorem byteN_setWidth_lane (x : BitVec 3) (lane : BitVec 2) :
    byteN (x.setWidth 32) lane.toNat = if lane = 0#2 then x.setWidth 8 else 0x00#8 := by
  revert x lane; decide

/-! ### Reads -/

/-- A register that is neither derived nor the data port reads as its stored byte (42_usb.md R140). -/
theorem readsValue_usbStored (obs : Bool) (al : BitVec 3) (lane : BitVec 2) {r : UsbReg}
    (hr : r ≠ .gisr ∧ r ≠ .digr ∧ r ≠ .cxport) :
    ReadsValue obs (usbRegAddr r lane al) (usbReadInstr obs al lane r)
      (fun _ u => u.regs.read (usbLane r lane).toNat) := by
  obtain ⟨hg, hd, hc⟩ := hr
  intro s
  cases r with
  | gisr => exact absurd rfl hg
  | digr => exact absurd rfl hd
  | cxport => exact absurd rfl hc
  | _ => exact usbReadStored_form obs _ lane al s

/-- On a ready block such a read answers the byte of its lane and changes nothing. -/
theorem usbStoredRead_answers {s : State} (hs : s.Ready) (obs : Bool) (al : BitVec 3) (lane : BitVec 2) {r : UsbReg}
    (hr : r ≠ .gisr ∧ r ≠ .digr ∧ r ≠ .cxport) :
    Answers (usbReadInstr obs al lane r) s (readWatch obs (laneAddr (usbBase r) lane al) s.dbg)
      (.byte (s.usb.regs.read ((usbBase r).toNat + lane.toNat))) := by
  rw [laneAddr_usbBase, ← usbLane_toNat]
  exact (readsValue_usbStored obs al lane hr s).trans (portRead_ready hs)

/-- The registers whose reads return the stored byte, in the order of the map. -/
def storedUsbRegs : List UsbReg :=
  [.usbsts, .usbintr, .otgisr, .otgier, .gmir, .dcfesr, .dmigr, .dmisg0, .dmisg1, .dmisg2, .disg0, .disg1, .disg2]

theorem storedUsbRegs_stored : ∀ r ∈ storedUsbRegs, r ≠ .gisr ∧ r ≠ .digr ∧ r ≠ .cxport := by decide

/-- Settles O39: the reads of the stored registers, and in the upper lanes of DISG0 and DISG2 the zero the invariant keeps
there. -/
theorem usbStoredReads : Obligations.UsbStoredReads := by
  unfold Obligations.UsbStoredReads
  intro s obs al lane hs
  refine ⟨?stored, fun inv => ⟨fun hl => ?disg0, fun hl => ?disg2⟩⟩
  case stored =>
    have reads : ∀ p ∈ storedUsbRegs.map (fun r => (usbReadInstr obs al lane r, usbBase r)),
        Answers p.1 s (readWatch obs (laneAddr p.2 lane al) s.dbg) (.byte (s.usb.regs.read (p.2.toNat + lane.toNat))) :=
      List.forall_mem_map.mpr (fun r hr => usbStoredRead_answers hs obs al lane (storedUsbRegs_stored r hr))
    exact reads
  case disg0 =>
    have upper : lane.toNat ≠ 0 := fun h => hl (BitVec.eq_of_toNat_eq h)
    rw [← inv.disg0 (0x144 + lane.toNat) (by omega) (by omega)]
    exact usbStoredRead_answers (r := .disg0) hs obs al lane ⟨nofun, nofun, nofun⟩
  case disg2 =>
    rw [← inv.disg2 (0x14C + lane.toNat) (by omega) (by omega)]
    exact usbStoredRead_answers (r := .disg2) hs obs al lane ⟨nofun, nofun, nofun⟩

/-- On a ready block a read of a derived register answers its three bits in lane 0 and changes nothing. -/
theorem usbReadDerived_answers {s : State} (hs : s.Ready) (obs : Bool) (r : UsbReg) (al : BitVec 3) (lane : BitVec 2)
    (value : UsbState → BitVec 3) :
    usbReadDerived obs r lane al value s = .next (s.finish (readWatch obs (laneAddr (usbBase r) lane al) s.dbg)
      (.byte (if lane = 0#2 then (value s.usb).setWidth 8 else 0x00#8))) := by
  rw [laneAddr_usbBase, ← byteN_setWidth_lane]
  exact portRead_ready hs

/-- Settles O40: the two derived registers. -/
theorem usbDerivedReads : Obligations.UsbDerivedReads := by
  unfold Obligations.UsbDerivedReads
  exact fun s obs al lane hs => ⟨usbReadDerived_answers hs obs .gisr al lane UsbState.gisr,
    usbReadDerived_answers hs obs .digr al lane UsbState.digr⟩

/-- The byte at the cursor, of the setup buffer as a list. -/
theorem UsbState.cxByte_eq (u : UsbState) : u.cxByte = u.ep0Buffer.toList.getD u.ep0Index 0x00#8 := by
  unfold UsbState.cxByte
  split_ifs with h
  · simp [h]
  · simp [Nat.le_of_not_lt h]

/-- What a read of the data port leaves: a cursor advanced where the read is observable and a byte is left. -/
theorem cxRead_leaves (obs : Bool) (s : State) :
    (if obs then s.setUsb s.usb.cxAdvance else s) =
      s.setUsb (s.usb.setIndex (if obs = true ∧ s.usb.ep0Index < 8 then s.usb.ep0Index + 1 else s.usb.ep0Index)) := by
  cases obs with
  | false => rfl
  | true => by_cases h : s.usb.ep0Index < 8 <;> simp only [UsbState.cxAdvance, h] <;> rfl

theorem readsCursor_cxport (obs : Bool) (al : BitVec 3) (lane : BitVec 2) :
    ReadsCursor obs (usbRegAddr .cxport lane al) (.usbCxportR obs al lane) := fun _ => rfl

/-- Settles O41: every lane is the same read of the data port. -/
theorem cxPortRead : Obligations.CxPortRead := by
  unfold Obligations.CxPortRead
  intro s obs al lane hs
  rw [readsCursor_cxport obs al lane s, portRead_ready hs]
  dsimp only
  rw [cxRead_leaves, UsbState.cxByte_eq, ← laneAddr_usbBase]
  rfl

/-! ### Writes -/

/-- An operation that leaves the record `u` with the block after one store stores that byte and no other. -/
theorem storesUsb_of_exec {i : Instr} {s : State} {off : Nat} {x : Byte} {u : UsbState} {e : List Event}
    (hw : Memory.wf 512 s.usb.regs = true)
    (h : exec i s = .next ((s.setUsb { u with regs := s.usb.regs.write off x }).finish e .none)) :
    StoresUsb i s off x u e :=
  ⟨_, h, rfl, Memory.read_write_same hw off x, fun _ ha => Memory.read_write_other _ x ha⟩

/-- On a ready block a write that updates the USB record and is not frozen leaves the updated record and emits the watch alone
(42_usb.md R141). -/
theorem WritesUsb.exec_ready {obs : Bool} {a : Addr} {i : Instr} {f : UsbState → UsbState} (hf : WritesUsb obs a i f)
    {s : State} (hs : s.Ready) (hz : frozen obs a s.dbg = false) :
    exec i s = .next ((s.setUsb (f s.usb)).finish (writeWatch obs a s.dbg) .none) := by
  rw [hf, portWrite_ready hs hz, List.append_nil]

/-- Such a write without effect on the record changes nothing, frozen or not. -/
theorem WritesUsb.answers_of_id {obs : Bool} {a : Addr} {i : Instr} (hf : WritesUsb obs a i id) {s : State} (hs : s.Ready) :
    Answers i s (writeWatch obs a s.dbg) .none := by
  cases hz : frozen obs a s.dbg with
  | false => exact hf.exec_ready hs hz
  | true => exact (hf s).trans (portWrite_frozen hs.1 hz)

/-- A write of a byte lane whose rule stores `x` and makes the other fields those of `u`. -/
theorem usbWrite_stores {s : State} {obs : Bool} {al : BitVec 3} {lane : BitVec 2} {v x : Byte} {r : UsbReg} {u : UsbState}
    (hs : s.Ready) (hw : Memory.wf 512 s.usb.regs = true) (hz : frozen obs (laneAddr (usbBase r) lane al) s.dbg = false)
    (hu : usbUpdated v lane r s.usb = { u with regs := s.usb.regs.write (usbLane r lane).toNat x }) :
    StoresUsb (usbWriteInstr obs al lane v r) s ((usbBase r).toNat + lane.toNat) x u
      (writeWatch obs (laneAddr (usbBase r) lane al) s.dbg) := by
  rw [laneAddr_usbBase] at hz ⊢
  rw [← usbLane_toNat]
  exact storesUsb_of_exec hw (hu ▸ (writesUsb_named obs al lane v r).exec_ready hs hz)

/-- The same of every register of a list whose rule makes `f` of the stored byte, written as the statements list them: the
operation and the base. -/
theorem usbWrites_store {s : State} {obs : Bool} {al : BitVec 3} {lane : BitVec 2} {v : Byte} (f : Byte → Byte)
    (hs : s.Ready) (hw : Memory.wf 512 s.usb.regs = true) (regs : List UsbReg)
    (hu : ∀ r ∈ regs, usbUpdated v lane r s.usb =
      s.usb.setReg (usbLane r lane).toNat (f (s.usb.regs.read (usbLane r lane).toNat))) :
    ∀ p ∈ regs.map (fun r => (usbWriteInstr obs al lane v r, usbBase r)),
      frozen obs (laneAddr p.2 lane al) s.dbg = false →
        StoresUsb p.1 s (p.2.toNat + lane.toNat) (f (s.usb.regs.read (p.2.toNat + lane.toNat))) s.usb
          (writeWatch obs (laneAddr p.2 lane al) s.dbg) := by
  refine List.forall_mem_map.mpr (fun r hr hz => ?_)
  exact usbWrite_stores hs hw hz ((hu r hr).trans (by rw [usbLane_toNat]; rfl))

/-- Settles O43: the rule of each of the seven registers is the store of the byte written. -/
theorem usbStores : Obligations.UsbStores := by
  unfold Obligations.UsbStores
  intro s obs al lane v hs hw
  exact usbWrites_store (fun _ => v) hs hw [.usbintr, .otgier, .gmir, .dmigr, .dmisg0, .dmisg1, .dmisg2]
    (by simp only [List.forall_mem_cons]; exact ⟨rfl, rfl, rfl, rfl, rfl, rfl, rfl, List.forall_mem_nil _⟩)

/-- Settles O44: two registers clear the bits written one, three the bits written zero. -/
theorem usbStatusClears : Obligations.UsbStatusClears := by
  unfold Obligations.UsbStatusClears
  intro s obs al lane v hs hw
  refine ⟨?ones, ?zeros⟩
  case ones =>
    exact usbWrites_store (fun old => old &&& ~~~v) hs hw [.usbsts, .otgisr]
      (by simp only [List.forall_mem_cons]; exact ⟨rfl, rfl, List.forall_mem_nil _⟩)
  case zeros =>
    exact usbWrites_store (fun old => old &&& v) hs hw [.disg0, .disg1, .disg2]
      (by simp only [List.forall_mem_cons]; exact ⟨rfl, rfl, rfl, List.forall_mem_nil _⟩)

/-- Settles O45: the update of each of the three registers is none. -/
theorem usbIgnoredWrites : Obligations.UsbIgnoredWrites := by
  unfold Obligations.UsbIgnoredWrites
  intro s obs al lane v hs
  have ignored : ∀ p ∈ [UsbReg.gisr, .digr, .cxport].map (fun r => (usbWriteInstr obs al lane v r, usbBase r)),
      Answers p.1 s (writeWatch obs (laneAddr p.2 lane al) s.dbg) .none := by
    refine List.forall_mem_map.mpr (fun r hr => ?_)
    have noEffect : usbUpdated v lane r = id := by fin_cases hr <;> rfl
    rw [laneAddr_usbBase]
    exact (noEffect ▸ writesUsb_named obs al lane v r).answers_of_id hs
  exact ignored

/-- Settles O46: lane 0 stores the byte without bit 0, and with it set also ends the transfer; the other lanes store. -/
theorem dcfesrWrite : Obligations.DcfesrWrite := by
  unfold Obligations.DcfesrWrite
  intro s obs al v hs hw
  refine ⟨fun hz => usbWrite_stores (r := .dcfesr) (lane := 0#2) hs hw hz ?lane0,
    fun lane hl hz => usbWrite_stores (r := .dcfesr) hs hw hz (if_neg hl)⟩
  case lane0 =>
    by_cases hdone : v.getLsbD 0 = true
    · simp only [usbUpdated, if_true, if_pos hdone]; rfl
    · simp only [usbUpdated, if_true, if_neg hdone]; rfl

/-- Settles O42: a RAW read answers the stored byte, and a RAW write stores its byte. -/
theorem usbRawAccess : Obligations.UsbRawAccess := by
  unfold Obligations.UsbRawAccess
  intro s obs al off v hs _
  exact ⟨(readsValue_usbRaw obs al off s).trans (portRead_ready hs),
    fun hw hz => storesUsb_of_exec hw ((writesUsb_raw obs al off v).exec_ready hs hz)⟩

end Sys2Proof.Machine
end

section
/-! PROOFS. The family 42_usb, third part: the pending conditions and the interrupt output bit by bit (42_usb.md R138, R139), and
the side-band operations of the USBDeviceController (R177 to R187) with the queries of the environment (43_sideband.md R196,
R198). -/

namespace Sys2Proof.Machine

open Sys2Proof.Stated

/-! ### The bits of a register word -/

/-- Bit `i` of a register word is bit `i % 8` of its byte `i / 8`, the lowest address holding the lowest byte (42_usb.md R136). -/
theorem UsbState.getLsbD_w32 (u : UsbState) (b : Nat) {i : Nat} (hi : i < 32) :
    (u.w32 b).getLsbD i = (u.regs.read (b + i / 8)).getLsbD (i % 8) := by
  simp only [UsbState.w32, BitVec.getLsbD_append]
  split_ifs with h0 h1 h2
  · rw [show i / 8 = 0 by omega, Nat.mod_eq_of_lt h0, Nat.add_zero]
  · rw [show i / 8 = 1 by omega, show i % 8 = i - 8 by omega]
  · rw [show i / 8 = 2 by omega, show i % 8 = i - 8 - 8 by omega]
  · rw [show i / 8 = 3 by omega, show i % 8 = i - 8 - 8 - 8 by omega]

theorem UsbState.getLsbD_word (u : UsbState) (r : UsbReg) {i : Nat} (hi : i < 32) :
    (u.word r).getLsbD i = (u.regs.read ((usbBase r).toNat + i / 8)).getLsbD (i % 8) := u.getLsbD_w32 _ hi

/-- A word of `n` bytes is not zero exactly where some bit of some byte is set. -/
theorem ne_zero_iff_byte_bit {w : Nat} (n : Nat) (hw : w = 8 * n) (x : BitVec w) (bit : Nat → Nat → Bool)
    (h : ∀ i < w, x.getLsbD i = bit (i / 8) (i % 8)) :
    (x != 0#w) = true ↔ ∃ k j, k < n ∧ j < 8 ∧ bit k j = true := by
  rw [bne_iff_ne]
  constructor
  · intro hx
    by_contra hnone
    refine hx (BitVec.eq_of_getLsbD_eq (fun i hi => ?_))
    rw [h i hi, BitVec.getLsbD_zero, ← Bool.not_eq_true]
    exact fun set => hnone ⟨i / 8, i % 8, by omega, by omega, set⟩
  · rintro ⟨k, j, hk, hj, set⟩ rfl
    have bit_clear := h (8 * k + j) (by omega)
    rw [BitVec.getLsbD_zero, show (8 * k + j) / 8 = k by omega, show (8 * k + j) % 8 = j by omega, set] at bit_clear
    cases bit_clear

/-- Of the low `n` bytes of a status register some bit is left by a mask register. -/
theorem UsbState.masked_iff {w : Nat} (n : Nat) (hw : w = 8 * n) (hn : n ≤ 4) (u : UsbState) (r m : UsbReg) :
    ((u.word r).extractLsb' 0 w &&& ~~~((u.word m).extractLsb' 0 w) != 0#w) = true ↔
      ∃ k j, k < n ∧ j < 8 ∧ (u.regs.read ((usbBase r).toNat + k)).getLsbD j = true ∧
        (u.regs.read ((usbBase m).toNat + k)).getLsbD j = false := by
  rw [ne_zero_iff_byte_bit n hw _ (fun k j => (u.regs.read ((usbBase r).toNat + k)).getLsbD j &&
    !(u.regs.read ((usbBase m).toNat + k)).getLsbD j)]
  · simp only [Bool.and_eq_true, Bool.not_eq_true']
  · intro i hi
    simp [hi, getLsbD_word _ _ (show i < 32 by omega)]

/-- Of the low `n` bytes of a status register some bit is enabled by an enable register. -/
theorem UsbState.enabled_iff {w : Nat} (n : Nat) (hw : w = 8 * n) (hn : n ≤ 4) (u : UsbState) (r e : UsbReg) :
    ((u.word r).extractLsb' 0 w &&& (u.word e).extractLsb' 0 w != 0#w) = true ↔
      ∃ k j, k < n ∧ j < 8 ∧ (u.regs.read ((usbBase r).toNat + k)).getLsbD j = true ∧
        (u.regs.read ((usbBase e).toNat + k)).getLsbD j = true := by
  rw [ne_zero_iff_byte_bit n hw _ (fun k j => (u.regs.read ((usbBase r).toNat + k)).getLsbD j &&
    (u.regs.read ((usbBase e).toNat + k)).getLsbD j)]
  · simp only [Bool.and_eq_true]
  · intro i hi
    simp [hi, getLsbD_word _ _ (show i < 32 by omega)]

/-! ### The pending conditions -/

/-- Where the register has one byte, that byte is its first. -/
theorem exists_lt_one_iff (p : Nat → Nat → Prop) : (∃ k j, k < 1 ∧ j < 8 ∧ p k j) ↔ ∃ j, j < 8 ∧ p 0 j := by simp

/-- DMIGR masks each group by the bit of its number (42_usb.md R138). -/
theorem UsbState.devPend_iff (u : UsbState) :
    u.devPend = true ↔ (u.grp0Pend = true ∧ (u.regs.read 0x130).getLsbD 0 = false) ∨
      (u.grp1Pend = true ∧ (u.regs.read 0x130).getLsbD 1 = false) ∨
      (u.grp2Pend = true ∧ (u.regs.read 0x130).getLsbD 2 = false) := by
  have mask : ∀ j < 8, (u.word .dmigr).getLsbD j = (u.regs.read 0x130).getLsbD j := fun j hj => by
    rw [getLsbD_word _ _ (by omega), Nat.div_eq_of_lt hj, Nat.mod_eq_of_lt hj]; rfl
  simp only [UsbState.devPend, mask 0 (by omega), mask 1 (by omega), mask 2 (by omega), Bool.or_eq_true, Bool.and_eq_true,
    Bool.not_eq_true', or_assoc]

/-- Of three conditions side by side some one is left by a mask of three bits. -/
theorem masked_three_iff (h o d : Bool) (m : BitVec 3) :
    ((BitVec.ofBool h ++ BitVec.ofBool o ++ BitVec.ofBool d : BitVec 3) &&& ~~~m != 0#3) = true ↔
      (d = true ∧ m.getLsbD 0 = false) ∨ (o = true ∧ m.getLsbD 1 = false) ∨ (h = true ∧ m.getLsbD 2 = false) := by
  revert h o d m; decide

/-- GMIR masks each class by the bit of its number (42_usb.md R139). -/
theorem UsbState.irq_iff (u : UsbState) :
    u.irq = true ↔ (u.devPend = true ∧ (u.regs.read 0x0C4).getLsbD 0 = false) ∨
      (u.otgPend = true ∧ (u.regs.read 0x0C4).getLsbD 1 = false) ∨
      (u.hostPend = true ∧ (u.regs.read 0x0C4).getLsbD 2 = false) := by
  have mask : ∀ j < 3, ((u.word .gmir).extractLsb' 0 3).getLsbD j = (u.regs.read 0x0C4).getLsbD j := fun j hj => by
    rw [BitVec.getLsbD_extractLsb', Nat.zero_add, getLsbD_word _ _ (by omega), Nat.div_eq_of_lt (by omega),
      Nat.mod_eq_of_lt (by omega), decide_eq_true hj]
    rfl
  rw [← mask 0 (by omega), ← mask 1 (by omega), ← mask 2 (by omega)]
  exact masked_three_iff ..

/-- Settles O47: each condition is an intersection of two registers' bits, the groups' of one, four and two bytes. -/
theorem usbInterruptLevel : Obligations.UsbInterruptLevel := by
  unfold Obligations.UsbInterruptLevel
  intro u
  refine ⟨?grp0, ?grp1, ?grp2, u.devPend_iff, ?otg, ?host, rfl, u.irq_iff, rfl⟩
  case grp0 => exact (u.masked_iff 1 rfl (by omega) .disg0 .dmisg0).trans (exists_lt_one_iff _)
  case grp1 =>
    have whole := u.masked_iff (w := 32) 4 rfl (by omega) .disg1 .dmisg1
    rwa [BitVec.extractLsb'_eq_self, BitVec.extractLsb'_eq_self] at whole
  case grp2 => exact u.masked_iff 2 rfl (by omega) .disg2 .dmisg2
  case otg =>
    have whole := u.enabled_iff (w := 32) 4 rfl (by omega) .otgisr .otgier
    rwa [BitVec.extractLsb'_eq_self, BitVec.extractLsb'_eq_self] at whole
  case host => exact (u.enabled_iff 1 rfl (by omega) .usbsts .usbintr).trans (exists_lt_one_iff _)

/-! ### Side-band operations on an initialised block -/

theorem exec_sideBand {i : Instr} {run : State → SideAnswer} (hi : ∀ s, exec i s = sideBand run s) {s : State}
    (hs : s.initialised = true) : exec i s = .next ((run s).state.finish (run s).events (run s).result) :=
  (hi s).trans (sideBand_eq_next hs)

/-- One that changes the state answers nothing. -/
theorem exec_sideUpdate {i : Instr} (f : State → State) (hi : ∀ s, exec i s = sideUpdate f s) {s : State}
    (hs : s.initialised = true) : exec i s = .next ((f s).finish [] .none) := exec_sideBand hi hs

/-- A query changes nothing. -/
theorem sideQuery_answers {i : Instr} (f : State → Result) (hi : ∀ s, exec i s = sideQuery f s) {s : State}
    (hs : s.initialised = true) : Answers i s [] (f s) := exec_sideBand hi hs

/-! ### The interrupt entry points -/

/-- Joining bits into register bytes changes the register block alone. -/
theorem orBytes_eq {w : Nat} (u : UsbState) (base : Nat) (bits : BitVec w) (n : Nat) :
    u.orBytes base bits n = { u with regs := (u.orBytes base bits n).regs } := by
  induction n with
  | zero => rfl
  | succ n ih =>
    exact congrArg (fun x : UsbState => x.setReg (base + n) (x.regs.read (base + n) ||| byteN bits n)) ih

/-- An entry point on an initialised block marks its bytes and notifies its class once, with the level after the update. -/
theorem marksAndNotifies_of_usbEntry {i : Instr} {s : State} {cls : UsbClass} {w base n : Nat} {bits : BitVec w}
    (hi : ∀ s, exec i s = sideBand (fun s => usbEntry cls (s.usb.orBytes base bits n) s) s) (hs : s.initialised = true)
    (hw : Memory.wf 512 s.usb.regs = true) (hb : base + n ≤ 512) : MarksAndNotifies i s cls base n bits := by
  refine ⟨_, exec_sideBand hi hs, ?frame, (orBytes_read s.usb base bits n hw hb).2⟩
  exact congrArg (fun u => (s.setUsb u).finish [.usbNotify cls (s.usb.orBytes base bits n).irq] .none) (orBytes_eq ..)

/-- Settles O48: the five operations are entry points, and the check of the side band comes before them. -/
theorem usbInterruptEntries : Obligations.UsbInterruptEntries := by
  unfold Obligations.UsbInterruptEntries
  refine ⟨fun s hs hw => ⟨?host, ?otg, ?grp0, ?grp1, ?grp2⟩, fun b8 b16 b32 i hi s hs => exec_uninitialised hs ?notColdInit⟩
  case notColdInit => rintro rfl; simp at hi
  all_goals exact fun bits => marksAndNotifies_of_usbEntry (fun _ => rfl) hs hw (by decide)

/-! ### Setup packets -/

theorem usbSetup_short {bytes : List Byte} {s : State} (hs : s.initialised = true) (hb : bytes.length < 8) :
    exec (.sbUsbSetup bytes) s = .next (s.finish [] .none) := by
  have run := exec_sideBand (i := .sbUsbSetup bytes) (fun _ => rfl) hs
  obtain ⟨-, ignored⟩ | ⟨hlen, -⟩ := usbSetup_next run
  · rw [run, ignored]
  · omega

theorem usbSetup_long {bytes : List Byte} {s : State} (hs : s.initialised = true) (hb : 8 ≤ bytes.length) :
    exec (.sbUsbSetup bytes) s =
      .next ((s.setUsb (s.usb.loadSetup bytes)).finish [.usbNotify .grp0 (s.usb.loadSetup bytes).irq] .none) := by
  have run := exec_sideBand (i := .sbUsbSetup bytes) (fun _ => rfl) hs
  obtain ⟨hlen, -⟩ | ⟨-, loaded⟩ := usbSetup_next run
  · omega
  · rw [run, loaded]

/-- The staging buffer holds the first eight bytes of the packet (42_usb.md R182). -/
theorem setupBytes_toList {bytes : List Byte} (h : 8 ≤ bytes.length) : (setupBytes bytes).toList = bytes.take 8 := by
  refine List.ext_getElem (by simp [h]) (fun j hj _ => ?_)
  have inside : j < bytes.length := by simp at hj; omega
  simp [setupBytes, inside]

theorem UsbState.loadSetup_ep0Buffer (u : UsbState) (bytes : List Byte) :
    (u.loadSetup bytes).ep0Buffer = setupBytes bytes := orBytes_ep0Buffer ..

/-- A loaded packet leaves the register block and the buffer to be said, and every other field at its value of 42_usb.md R182. -/
theorem UsbState.loadSetup_eq (u : UsbState) (bytes : List Byte) :
    u.loadSetup bytes =
      { regs := (u.loadSetup bytes).regs, ep0Buffer := (u.loadSetup bytes).ep0Buffer, ep0Index := 0,
        transferState := .setupReceived, pendingBuffer := .null, pendingLength := 0 } := rfl

/-- CX_SETUP is set in DISG0, and every other byte of the block stays (42_usb.md R182). -/
theorem UsbState.loadSetup_read {u : UsbState} (hw : Memory.wf 512 u.regs = true) (bytes : List Byte) (a : Nat) :
    (u.loadSetup bytes).regs.read a = if a = 0x144 then u.regs.read a ||| 0x01#8 else u.regs.read a := by
  have joined := (orBytes_read ((((u.setBuffer (setupBytes bytes)).setIndex 0).setPending .null 0).setTransfer .setupReceived)
    0x144 0x01#8 1 hw (by omega)).2 a
  refine joined.trans ?_
  by_cases h : a = 0x144
  · subst h; rfl
  · rw [if_neg (by omega), if_neg h]; rfl

/-- Settles O49: a short packet is ignored, and a long one loaded. -/
theorem setupPacket : Obligations.SetupPacket := by
  unfold Obligations.SetupPacket
  refine ⟨fun s bytes hs hw => ⟨fun hb => usbSetup_short hs hb, fun hb => ?loaded⟩,
    fun bytes s hs => exec_uninitialised hs nofun⟩
  refine ⟨_, usbSetup_long hs hb, ?frame, ?buffer, ?marked, fun a ha => ?others⟩
  case frame =>
    exact congrArg (fun u => (s.setUsb u).finish [.usbNotify .grp0 (s.usb.loadSetup bytes).irq] .none)
      (s.usb.loadSetup_eq bytes)
  case buffer => exact (congrArg Vector.toList (s.usb.loadSetup_ep0Buffer bytes)).trans (setupBytes_toList hb)
  case marked => exact (UsbState.loadSetup_read hw bytes _).trans (if_pos rfl)
  case others => exact (UsbState.loadSetup_read hw bytes a).trans (if_neg ha)

/-! ### Queued IN data -/

/-- Serving with data in DataStage. -/
theorem usbServeIn_chunk {s : State} (hs : s.initialised = true) (hd : s.usb.transferState = .dataStage)
    (hp : 0 < s.usb.pendingLength) :
    exec .sbUsbServeIn s = .next ((s.setUsb s.usb.served).drawn.finish []
      (.bytes (hostMem s.draws s.usb.pendingBuffer s.usb.chunkSize))) := by
  rw [exec_sideBand (i := .sbUsbServeIn) (fun _ => rfl) hs, if_pos ⟨hd, hp⟩]

/-- Serving in another state, or with nothing pending. -/
theorem usbServeIn_empty {s : State} (hs : s.initialised = true)
    (h : s.usb.transferState ≠ .dataStage ∨ s.usb.pendingLength = 0) :
    exec .sbUsbServeIn s = .next (s.finish [] (.bytes [])) := by
  have idle : ¬ (s.usb.transferState = .dataStage ∧ 0 < s.usb.pendingLength) := by
    rintro ⟨hd, hp⟩
    exact h.elim (fun hne => hne hd) (by omega)
  rw [exec_sideBand (i := .sbUsbServeIn) (fun _ => rfl) hs, if_neg idle]

/-- Settles O50: queueing is one update, serving takes one chunk or answers the empty list. -/
theorem queueAndServe : Obligations.QueueAndServe := by
  unfold Obligations.QueueAndServe
  refine ⟨fun s hs => ⟨fun buf len => ?queue, fun hd hp => ?chunk, fun h => usbServeIn_empty hs h⟩,
    fun moment n p => ⟨hostMem_length moment p n, fun i hi => ?byte⟩, fun q n => rfl,
    fun buf len s hs => exec_uninitialised hs nofun, fun s hs => exec_uninitialised hs nofun⟩
  case queue =>
    exact exec_sideUpdate (fun s => s.setUsb ((s.usb.setPending buf len).setTransfer
      (if len = 0 then .statusStage else .dataStage))) (fun _ => rfl) hs
  case chunk =>
    rw [usbServeIn_chunk hs hd hp, UsbState.served_eq hd]
    rfl
  case byte => simp [hostMem, hi]

/-! ### Reset and queries -/

/-- Settles O55: the update puts the record of cold init in the place of the USB record. -/
theorem usbReset : Obligations.UsbReset := by
  unfold Obligations.UsbReset
  exact ⟨fun s hs => exec_sideUpdate (fun s => s.setUsb UsbState.cleared) (fun _ => rfl) hs,
    fun s hs => exec_uninitialised hs nofun⟩

/-- Settles O58: three queries, and the check of the side band before them. -/
theorem environmentQueries : Obligations.EnvironmentQueries := by
  unfold Obligations.EnvironmentQueries
  refine ⟨fun s hs => ⟨?summary, ?snapshot, ?power⟩, fun i hi s hs => exec_uninitialised hs ?notColdInit⟩
  case notColdInit => rintro rfl; simp at hi
  case summary => exact sideQuery_answers (fun s => .byte s.usb.status) (fun _ => rfl) hs
  case snapshot => exact sideQuery_answers (fun s => .snapshot ⟨.thisSpec, s.ctrl, s.usb⟩) (fun _ => rfl) hs
  case power => exact sideQuery_answers (fun s => .bool s.ctrl.poweredOff) (fun _ => rfl) hs

end Sys2Proof.Machine
end

section
/-! PROOFS. The family 43_sideband: no step of a ready block faults or makes it unready (60_exceptions.md R203, R204), cold init,
the global reset and the environment's inputs (43_sideband.md R190 to R195), and the snapshots (R197, R199). -/

namespace Sys2Proof.Machine

open Sys2Proof.Stated

/-! ### A ready block -/

/-- A frozen write never reaches the resolution, and one that does finds its range bound. -/
theorem portWrite_completes {s : State} (hs : s.Ready) (obs : Bool) (a : Addr) (dev : Offset → State → WriteAnswer) :
    ∃ t, portWrite obs a dev s = .next t := by
  obtain ⟨initialised, bound⟩ := hs
  cases hf : frozen obs a s.dbg with
  | true => exact ⟨_, portWrite_frozen initialised hf⟩
  | false => exact ⟨_, portWrite_eq_next initialised hf (bound _)⟩

/-- On a ready block every operation completes, but for a restore of another layout (60_exceptions.md R203). -/
theorem exec_ready_cases {s : State} (hs : s.Ready) (i : Instr) :
    (∃ t, exec i s = .next t) ∨ ∃ snap tag, i = .sbSnapshotRestore snap ∧ snap.layout = .other tag := by
  obtain ⟨obs, a, dev, h⟩ | ⟨obs, a, dev, h⟩ | ⟨run, h⟩ | rfl | ⟨snap, rfl⟩ := exec_routine i
  · exact .inl ⟨_, (h s).trans (portRead_eq_next hs.1 (hs.2 _))⟩
  · obtain ⟨t, ht⟩ := portWrite_completes hs obs a dev
    exact .inl ⟨t, (h s).trans ht⟩
  · exact .inl ⟨_, (h s).trans (sideBand_eq_next hs.1)⟩
  · exact .inl ⟨_, rfl⟩
  · cases hl : snap.layout with
    | thisSpec => exact .inl ⟨_, restore_thisSpec hs.1 hl⟩
    | other tag => exact .inr ⟨snap, tag, rfl, hl⟩

theorem exec_ready_ne_fault {s : State} (hs : s.Ready) (i : Instr) (f : Fault) : exec i s ≠ .fault f := by
  obtain ⟨t, h⟩ | ⟨snap, tag, rfl, hl⟩ := exec_ready_cases hs i
  · rw [h]; nofun
  · rw [restore_other hs.1 hl]; nofun

/-- Only cold init touches the handler table, and binds every range (43_sideband.md R190). -/
theorem Effect.bus {i : Instr} {s t : State} (h : Effect i s t) : t.bus = s.bus ∨ t.bus = BusState.bound := by
  cases h with
  | coldInit => exact .inr rfl
  | _ => exact .inl rfl

/-- A block that an operation leaves is initialised, and its handler table is the one before or cold init's. -/
theorem State.Ready.of_exec {i : Instr} {s t : State} (hs : s.Ready) (h : exec i s = .next t) : t.Ready := by
  refine ⟨uninitialisedBlockFaults.2 i s t h, fun k => ?_⟩
  obtain same | bound := (exec_effect h).bus
  · rw [handler_congr same]; exact hs.2 k
  · rw [handler_bound bound]; exact deviceOf_ne_unbound k

/-- Taking an operation from those waiting leaves the block ready. -/
theorem State.Ready.dequeue {s : State} (hs : s.Ready) (rest : List Transaction) : State.Ready { s with inputs := rest } := hs

theorem step_ready_ne_fault {s : State} (hs : s.Ready) (f : Fault) : step s ≠ .fault f := by
  cases hin : s.inputs with
  | nil => rw [step_nil hin]; nofun
  | cons w rest =>
    cases hd : decode w with
    | error e => rw [step_refused hin hd]; nofun
    | ok i => rw [step_cons hin hd]; exact exec_ready_ne_fault (hs.dequeue rest) i f

/-- Settles O20: a step idles, refuses, or is one operation on the ready block the fetch leaves. -/
theorem readyBlockNeverFaults : Obligations.ReadyBlockNeverFaults := by
  unfold Obligations.ReadyBlockNeverFaults
  refine fun s hs => ⟨step_ready_ne_fault hs, fun t h => ?_⟩
  obtain ⟨-, rfl⟩ | ⟨w, rest, i, -, -, hx⟩ := step_next h
  · exact hs.finish [] .none
  · exact (hs.dequeue rest).of_exec hx

/-! ### Cold init and the global reset -/

/-- Cold init leaves the record of reset but for the debugger's inputs and the model's own fields (DEDUCED log 23). -/
theorem coldInit_eq_reset (s : State) :
    coldInit s = { State.reset with dbg := s.dbg, inputs := s.inputs, draws := s.draws, out := s.out } := rfl

/-- The rate of speed code 0 (10_state.md R30). -/
theorem clockRate_zero : Config.clockRate 0#2 = 6000000 := rfl

/-- Settles O53, from the record cold init leaves and the rate it sets. -/
theorem SideBand.coldInit : Obligations.ColdInit := by
  unfold Obligations.ColdInit
  intro s
  rw [← clockRate_zero]
  exact congrArg (fun block => Host.Outcome.next (block.finish [.setClock (Config.clockRate 0#2)] .none)) (coldInit_eq_reset s)

/-- A global reset leaves the array to be said, the two environment inputs and the off mark as they were, and every other field
at its value of cold init (43_sideband.md R191). -/
theorem resetCtrl_frame (c : CtrlState) :
    resetCtrl c = { CtrlState.coldInit with
      ports := (resetCtrl c).ports, batterySetLevel := c.batterySetLevel, batteryCharging := c.batteryCharging,
      poweredOff := c.poweredOff } := by
  rw [resetCtrl_eq]
  by_cases off : c.poweredOff = true
  · rw [if_pos off, off]; rfl
  · rw [if_neg off, Bool.eq_false_of_not_eq_true off]; rfl

/-- After a global reset the array is cold init's, with the status bit of SHUTDOWN set where the block is off. -/
theorem resetCtrl_ports_read (c : CtrlState) (a : Nat) :
    (resetCtrl c).ports.read a =
      if a = 0x0F then 0x02#8 else if a = 0x0C ∧ c.poweredOff = true then 0x01#8 else 0x00#8 := by
  rw [resetCtrl_eq]
  by_cases off : c.poweredOff = true
  · rw [if_pos off]
    have stored : (CtrlState.coldInit.ports.write 0x0C 0x01#8).read a =
        if a = 0x0C then 0x01#8 else CtrlState.coldInit.ports.read a := Memory.read_write coldInit_ctrl_inv.wf 0x0C a _
    refine stored.trans ?_
    rw [coldInit_ports_read]
    by_cases mark : a = 0x0C
    · rw [if_pos mark, if_neg (by omega), if_pos ⟨mark, off⟩]
    · rw [if_neg mark, if_neg (mt And.left mark)]
  · rw [if_neg off, if_neg (mt And.right off)]
    exact coldInit_ports_read a

/-- Settles O54: the ControlDevice's record field by field and its array at every address; the USB record is cold init's. -/
theorem globalReset : Obligations.GlobalReset := by
  unfold Obligations.GlobalReset
  refine ⟨fun s hs => ⟨_, exec_sideBand (i := .sbGlobalReset) (fun _ => rfl) hs, ?frame, resetCtrl_ports_read s.ctrl⟩,
    fun s hs => exec_uninitialised hs nofun⟩
  rw [clockRate_zero]
  exact congrArg (fun c => ((s.setCtrl c).setUsb UsbState.cleared).finish [.setClock 6000000] .none) (resetCtrl_frame s.ctrl)

/-! ### The environment's inputs -/

/-- Settles O56: each of the four is the update of one field, and the check of the side band comes before them. -/
theorem environmentInputs : Obligations.EnvironmentInputs := by
  unfold Obligations.EnvironmentInputs
  refine ⟨fun s hs => ⟨fun bits => ?violation, fun level => ?level, fun b => ?charging, fun cfg => ?debugger⟩,
    fun bits level b cfg i hi s hs => exec_uninitialised hs ?notColdInit⟩
  case violation =>
    exact exec_sideUpdate (fun s => s.setCtrl (s.ctrl.setStatus (s.ctrl.protectionStatus ||| bits))) (fun _ => rfl) hs
  case level => exact exec_sideUpdate (fun s => s.setCtrl (s.ctrl.setLevel level)) (fun _ => rfl) hs
  case charging => exact exec_sideUpdate (fun s => s.setCtrl (s.ctrl.setCharging b)) (fun _ => rfl) hs
  case debugger => exact exec_sideUpdate (fun s => s.setDbg cfg) (fun _ => rfl) hs
  case notColdInit => rintro rfl; simp at hi

/-! ### Snapshots -/

/-- Settles O59, by the layout of the record. -/
theorem snapshotRestore : Obligations.SnapshotRestore := by
  unfold Obligations.SnapshotRestore
  refine ⟨fun s snap hs => ⟨restore_thisSpec hs, fun hl => ?other⟩, fun snap s hs => restore_uninitialised hs⟩
  cases htag : snap.layout with
  | thisSpec => exact absurd htag hl
  | other tag => exact restore_other hs htag

/-- No step clears the initialisation flag (10_state.md R19). -/
theorem step_initialised {s t : State} (hs : s.initialised = true) (h : step s = .next t) : t.initialised = true := by
  obtain ⟨-, rfl⟩ | ⟨w, rest, i, -, -, hx⟩ := step_next h
  · exact hs
  · exact uninitialisedBlockFaults.2 i _ t hx

/-- A run of one step more that answers a state takes a step that answers one. -/
theorem run_succ_next {M : Host.Core} {n : Nat} {s t : M.State} (h : M.run (n + 1) s = .next t) :
    ∃ u, M.step s = .next u ∧ M.run n u = .next t := by
  rw [Host.Core.run] at h
  split at h
  case h_1 u hstep => exact ⟨u, hstep, h⟩
  case h_2 => cases h
  case h_3 => cases h

/-- What every step keeps, a run keeps. -/
theorem run_keeps {M : Host.Core} {P : M.State → Prop} (kept : ∀ s t, P s → M.step s = .next t → P t) {n : Nat}
    {s t : M.State} (h : M.run n s = .next t) (hs : P s) : P t := by
  induction n generalizing s with
  | zero => injection h with same; exact same ▸ hs
  | succ n ih =>
    obtain ⟨u, hstep, hrun⟩ := run_succ_next h
    exact ih hrun (kept s u hs hstep)

/-- Settles O60: the save answers both records under this spec's layout, no step in between can undo the initialisation, and so the
restore completes and puts them back. -/
theorem snapshotRoundTrip : Obligations.SnapshotRoundTrip := by
  unfold Obligations.SnapshotRoundTrip
  intro s hs
  have saved : Answers .sbSnapshotSave s [] (.snapshot ⟨.thisSpec, s.ctrl, s.usb⟩) :=
    sideQuery_answers (fun s => .snapshot ⟨.thisSpec, s.ctrl, s.usb⟩) (fun _ => rfl) hs
  refine ⟨_, _, saved, rfl, ⟨_, restore_thisSpec hs rfl, rfl⟩, fun n w hrun => ?later⟩
  have initialised : w.initialised = true := 
    run_keeps (M := Sys2Proof.core) (P := fun s : State => s.initialised = true) (fun _ _ => step_initialised) hrun hs
  exact ⟨_, restore_thisSpec initialised rfl, rfl, rfl⟩

end Sys2Proof.Machine
end

section
/-! PROOFS. The family 60_exceptions: on a ready block every decoded operation completes (60_exceptions.md R203), and which operations
request a reset, and how often (R206, R207). -/

namespace Sys2Proof.Machine

/-! ### Completion -/

/-- A step with an operation put in front of those waiting is that operation. -/
theorem step_enqueue {s : State} {w : Transaction} {i : Instr} (hd : decode w = .ok i) : step (s.enqueue w) = exec i s :=
  step_cons rfl hd

/-- Settles O17: of what an operation can do on a ready block, only a restore of another layout does not complete. -/
theorem readyBlockCompletes : Obligations.ReadyBlockCompletes := by
  unfold Obligations.ReadyBlockCompletes
  intro s w i hs hd thisLayout
  rw [step_enqueue hd]
  obtain completes | ⟨snap, tag, hi, other⟩ := exec_ready_cases hs i
  · exact completes
  · rw [thisLayout snap hi] at other
    cases other

/-! ### The operations that request no reset -/

theorem resetRequest_notMem_readWatch (obs : Bool) (a : Addr) (d : DebugConfig) : Event.resetRequest ∉ readWatch obs a d := by
  unfold readWatch; split <;> simp

theorem resetRequest_notMem_writeWatch (obs : Bool) (a : Addr) (d : DebugConfig) : Event.resetRequest ∉ writeWatch obs a d := by
  unfold writeWatch; split <;> simp

/-- The operation requests no reset in any state in which it completes. -/
def RequestsNoReset (i : Instr) : Prop := ∀ s t, exec i s = .next t → Event.resetRequest ∉ t.out.events

section
variable {i : Instr} {obs : Bool} {a : Addr}

/-- A read by a device that requests none: the access routine adds the watch alone. -/
theorem requestsNoReset_of_read {dev : Offset → State → ReadAnswer} (hi : ∀ s, exec i s = portRead obs a dev s)
    (device : ∀ off s, Event.resetRequest ∉ (dev off s).events) : RequestsNoReset i := by
  intro s t h
  rw [hi] at h
  obtain ⟨-, -, rfl⟩ := portRead_next h
  exact List.not_mem_append (device _ s) (resetRequest_notMem_readWatch obs a s.dbg)

theorem requestsNoReset_of_write {dev : Offset → State → WriteAnswer} (hi : ∀ s, exec i s = portWrite obs a dev s)
    (device : ∀ off s, Event.resetRequest ∉ (dev off s).events) : RequestsNoReset i := by
  intro s t h
  rw [hi] at h
  obtain ⟨-, ⟨-, rfl⟩ | ⟨-, -, rfl⟩⟩ := portWrite_next h
  · exact resetRequest_notMem_writeWatch obs a s.dbg
  · exact List.not_mem_append (resetRequest_notMem_writeWatch obs a s.dbg) (device _ s)

theorem requestsNoReset_of_sideBand {run : State → SideAnswer} (hi : ∀ s, exec i s = sideBand run s)
    (rule : ∀ s, Event.resetRequest ∉ (run s).events) : RequestsNoReset i := by
  intro s t h
  obtain rfl := sideBand_leaves hi h
  exact rule s

end

/-- The USBDeviceController's register writes emit nothing of their own. -/
theorem usbWrite_requestsNoReset (obs : Bool) (al : BitVec 3) (lane : BitVec 2) (v : Byte) (r : UsbReg) :
    RequestsNoReset (usbWriteInstr obs al lane v r) :=
  requestsNoReset_of_write (writesUsb_named obs al lane v r) (fun _ _ => List.not_mem_nil)

/-- A setup packet is ignored, or it is one notification (42_usb.md R182). -/
theorem usbSetup_requestsNoReset (bytes : List Byte) : RequestsNoReset (.sbUsbSetup bytes) := by
  intro s t h
  obtain ⟨-, rfl⟩ | ⟨-, rfl⟩ := usbSetup_next h <;> simp

/-- Serving answers bytes and emits nothing (42_usb.md R185). -/
theorem usbServeIn_requestsNoReset : RequestsNoReset .sbUsbServeIn :=
  requestsNoReset_of_sideBand (fun _ => rfl) (fun s => by split <;> exact List.not_mem_nil)

/-- Every operation but the writes of RESET and SHUTDOWN requests no reset: no read, no other write and no side-band operation
(60_exceptions.md R206). -/
theorem reset_or_shutdown_or_requestsNoReset (i : Instr) :
    (∃ obs al v, i = .ctrlResetW obs al v) ∨ (∃ obs al v, i = .ctrlShutdownW obs al v) ∨ RequestsNoReset i := by
  cases i with
  | ctrlResetW obs al v => exact .inl ⟨obs, al, v, rfl⟩
  | ctrlShutdownW obs al v => exact .inr (.inl ⟨obs, al, v, rfl⟩)
  | ctrlResetR | ctrlSpeedR | ctrlBattStatusR | ctrlDevtypeR | ctrlPowerModeR | ctrlBattHsR | ctrlChargeR | ctrlShutdownR
  | ctrlUsbMirrorR | ctrlPriv0R | ctrlPriv1R | ctrlPriv2R | ctrlPstart0R | ctrlPstart1R | ctrlPstart2R | ctrlPend0R
  | ctrlPend1R | ctrlPend2R | ctrlMiscR | ctrlStack0R | ctrlStack1R | ctrlStack2R | ctrlPstatusR | ctrlPackR | ctrlRawR
  | usbUsbstsR | usbUsbintrR | usbOtgisrR | usbOtgierR | usbGisrR | usbGmirR | usbDcfesrR | usbDmigrR | usbDmisg0R
  | usbDmisg1R | usbDmisg2R | usbDigrR | usbDisg0R | usbDisg1R | usbDisg2R | usbCxportR | usbRawR =>
    exact .inr (.inr (requestsNoReset_of_read (fun _ => rfl) (fun _ _ => List.not_mem_nil)))
  | extR => exact .inr (.inr (requestsNoReset_of_read (fun _ => rfl) (fun _ _ => by simp)))
  | ctrlSpeedW | extW => exact .inr (.inr (requestsNoReset_of_write (fun _ => rfl) (fun _ _ => by simp)))
  | usbDcfesrW obs al lane v => exact .inr (.inr (usbWrite_requestsNoReset obs al lane v .dcfesr))
  | sbColdInit => exact .inr (.inr (fun s t h => by cases h; simp))
  | sbSnapshotRestore snap =>
    exact .inr (.inr (fun s t h => by obtain ⟨-, rfl⟩ := restore_next h; exact List.not_mem_nil))
  | sbUsbSetup bytes => exact .inr (.inr (usbSetup_requestsNoReset bytes))
  | sbUsbServeIn => exact .inr (.inr usbServeIn_requestsNoReset)
  | sbGlobalReset | sbUsbHostInt | sbUsbOtgInt | sbUsbGrp0Int | sbUsbGrp1Int | sbUsbGrp2Int =>
    exact .inr (.inr (requestsNoReset_of_sideBand (fun _ => rfl) (fun _ => by simp [usbEntry])))
  | sbUsbReset | sbPrivCheck | sbLatchViolation | sbSetBatteryLevel | sbSetCharging | sbSetDebugConfig | sbUsbQueueSend
  | sbUsbStatusSummary | sbSnapshotSave | sbPowerState =>
    exact .inr (.inr (requestsNoReset_of_sideBand (fun _ => rfl) (fun _ => List.not_mem_nil)))
  | _ => exact .inr (.inr (requestsNoReset_of_write (fun _ => rfl) (fun _ _ => List.not_mem_nil)))

/-! ### The two writes that request one -/

/-- A request is one event, of an observable write (41_control.md R97). -/
theorem count_raiseReset (obs : Bool) (a : Addr) (d : DebugConfig) :
    (raiseReset obs a d).count .resetRequest = if obs then 1 else 0 := by
  cases obs with
  | false => rfl
  | true => by_cases h : (d.attached && d.openOnReset) = true <;> simp [raiseReset, h]

theorem resetRequest_mem_raiseReset (obs : Bool) (a : Addr) (d : DebugConfig) :
    Event.resetRequest ∈ raiseReset obs a d ↔ obs = true := by
  rw [← List.count_pos_iff, count_raiseReset]
  cases obs <;> decide

/-- A control write requests at most one reset of its own. -/
theorem count_ctrlEmitted_le_one (obs : Bool) (al : BitVec 5) (v : Byte) (r : CtrlReg) (d : DebugConfig) :
    (ctrlEmitted obs al v r d).count .resetRequest ≤ 1 := by
  obtain empty | ⟨rate, clock⟩ | raises := ctrlEmitted_events obs al v r d
  · simp [empty]
  · simp [clock]
  · rw [raises, count_raiseReset]; split <;> decide

/-- A control write that completes requests what its register's rule gives where it is not frozen, and none where it is. -/
theorem ctrlWrite_count {obs : Bool} {al : BitVec 5} {v : Byte} {r : CtrlReg} {s t : State}
    (h : exec (ctrlWriteInstr obs al v r) s = .next t) :
    t.out.events.count .resetRequest =
      if frozen obs (ctrlRegAddr r al) s.dbg then 0 else (ctrlEmitted obs al v r s.dbg).count .resetRequest := by
  have watch := List.count_eq_zero_of_not_mem (resetRequest_notMem_writeWatch obs (ctrlRegAddr r al) s.dbg)
  rw [writesCtrl_named] at h
  obtain ⟨-, ⟨hf, rfl⟩ | ⟨hf, -, rfl⟩⟩ := portWrite_next h
  · rw [State.finish_out, watch, if_pos hf]
  · rw [State.finish_out, List.count_append, watch, Nat.zero_add, hf]; rfl

theorem ctrlWrite_count_le_one {obs : Bool} {al : BitVec 5} {v : Byte} {r : CtrlReg} {s t : State}
    (h : exec (ctrlWriteInstr obs al v r) s = .next t) : t.out.events.count .resetRequest ≤ 1 := by
  rw [ctrlWrite_count h]
  split
  · exact Nat.zero_le 1
  · exact count_ctrlEmitted_le_one obs al v r s.dbg

theorem resetRequest_mem_ctrlWrite {obs : Bool} {al : BitVec 5} {v : Byte} {r : CtrlReg} {s t : State}
    (h : exec (ctrlWriteInstr obs al v r) s = .next t) :
    Event.resetRequest ∈ t.out.events ↔
      frozen obs (ctrlRegAddr r al) s.dbg = false ∧ Event.resetRequest ∈ ctrlEmitted obs al v r s.dbg := by
  rw [← List.count_pos_iff, ctrlWrite_count h, ← List.count_pos_iff]
  cases frozen obs (ctrlRegAddr r al) s.dbg <;> simp

/-- RESET requests a reset exactly where the write is observable and has bit 4 (41_control.md R98). -/
theorem resetRequest_mem_resetW {obs : Bool} {al : BitVec 5} {v : Byte} {s t : State}
    (h : exec (.ctrlResetW obs al v) s = .next t) :
    Event.resetRequest ∈ t.out.events ↔
      obs = true ∧ v &&& 0x10#8 ≠ 0#8 ∧ frozen obs (ctrlAddr 0x00#7 al) s.dbg = false := by
  have emitted : Event.resetRequest ∈ ctrlEmitted obs al v .reset s.dbg ↔ obs = true ∧ v &&& 0x10#8 ≠ 0#8 := by
    show _ ∈ (if v &&& 0x10#8 ≠ 0#8 then raiseReset obs _ s.dbg else []) ↔ _
    split_ifs with bit <;> simp [resetRequest_mem_raiseReset, bit]
  rw [resetRequest_mem_ctrlWrite (r := .reset) h, emitted, and_comm, and_assoc]
  rfl

/-- SHUTDOWN requests a reset exactly where the write is observable and of the shutdown code (41_control.md R113). -/
theorem resetRequest_mem_shutdownW {obs : Bool} {al : BitVec 5} {v : Byte} {s t : State}
    (h : exec (.ctrlShutdownW obs al v) s = .next t) :
    Event.resetRequest ∈ t.out.events ↔
      obs = true ∧ v = 0xD4#8 ∧ frozen obs (ctrlAddr 0x0C#7 al) s.dbg = false := by
  have emitted : Event.resetRequest ∈ ctrlEmitted obs al v .shutdown s.dbg ↔ obs = true ∧ v = 0xD4#8 := by
    show _ ∈ (if v = 0xD4#8 then raiseReset obs _ s.dbg else []) ↔ _
    split_ifs with code <;> simp [resetRequest_mem_raiseReset, code]
  rw [resetRequest_mem_ctrlWrite (r := .shutdown) h, emitted, and_comm, and_assoc]
  rfl

/-- Settles O36: the two writes request a reset under the stated conditions, once, and every other operation requests none. -/
theorem resetRequestCauses : Obligations.ResetRequestCauses := by
  unfold Obligations.ResetRequestCauses
  intro i s t h
  refine ⟨⟨fun requested => ?cause, fun cause => ?requested⟩, ?once⟩
  case cause =>
    obtain ⟨obs, al, v, rfl⟩ | ⟨obs, al, v, rfl⟩ | silent := reset_or_shutdown_or_requestsNoReset i
    · obtain ⟨rfl, bit, live⟩ := (resetRequest_mem_resetW h).mp requested
      exact .inl ⟨al, v, rfl, bit, live⟩
    · obtain ⟨rfl, rfl, live⟩ := (resetRequest_mem_shutdownW h).mp requested
      exact .inr ⟨al, rfl, live⟩
    · exact absurd requested (silent s t h)
  case requested =>
    obtain ⟨al, v, rfl, bit, live⟩ | ⟨al, rfl, live⟩ := cause
    · exact (resetRequest_mem_resetW h).mpr ⟨rfl, bit, live⟩
    · exact (resetRequest_mem_shutdownW h).mpr ⟨rfl, rfl, live⟩
  case once =>
    obtain ⟨obs, al, v, rfl⟩ | ⟨obs, al, v, rfl⟩ | silent := reset_or_shutdown_or_requestsNoReset i
    · exact ctrlWrite_count_le_one (r := .reset) h
    · exact ctrlWrite_count_le_one (r := .shutdown) h
    · exact (List.count_eq_zero_of_not_mem (silent s t h)).trans_le (Nat.zero_le 1)

end Sys2Proof.Machine
end
